-- ==== Sys2Proof/Word.lean ====
section
/-! DEFINITION. The two widths of the machine: a register or memory byte of `XLEN` = 8 bits and an address, `PC`, `SP`
or register pair of `ALEN` = 16 bits (00_scope.md R6). Arithmetic on them wraps (92_eei_decisions.md D6). -/

namespace Sys2Proof

/-- An 8-bit value: a general register, a byte of memory, an opcode byte (R6, R20, R50). -/
abbrev Byte := BitVec 8

/-- A 16-bit value: `SP`, `PC`, a register pair, an address (R6, R21, R24, R25, R50). -/
abbrev Word := BitVec 16

end Sys2Proof
end

