-- ==== Sys2Proof/Machine/Bytes.lean ====
section
/-! DEFINITION. Taking words apart and putting them together, widening, and single bits: the helpers of byte order and width
(00_scope.md R9, R10; 20_memory.md R62). -/

namespace Sys2Proof

/-- `w[7:0]` (R9). -/
def loByte (w : Word) : Byte := w.extractLsb' 0 8

/-- `w[15:8]` (R9). -/
def hiByte (w : Word) : Byte := w.extractLsb' 8 8

/-- The word `hi : lo`, that is `hi * 256 + lo` (R9, R21). -/
def wordOf (hi lo : Byte) : Word := hi ++ lo

/-- `sext_16(b)`: the byte as a two's-complement number, widened (R10). -/
def sext16 (b : Byte) : Word := b.signExtend 16

/-- `zext_16(b)`: the byte widened with zero bits (R10). -/
def zext16 (b : Byte) : Word := b.setWidth 16

/-- The byte whose bit `n` is `v` and whose other bits are 0 (R9: a flag as a number is 1 or 0, here shifted to its place). -/
def bitByte (v : Bool) (n : Nat) : Byte := if v then 0x01 <<< n else 0x00

/-- The low nibble `v & 0xF` as a number (R9, R190). -/
abbrev lowNibble (v : Nat) : Nat := v % 16

end Sys2Proof
end

