-- ==== Sys2Proof/Config.lean ====
section
/-! DEFINITION. The implementation parameters of 00_scope.md R6, each with the value the spec fixes, and the
one free value: what a fatal fault leaves. -/

namespace Sys2Proof.Config

/-- `MEM_SIZE`: bytes in the address space (R6, R50). -/
abbrev memSize : Nat := 0x10000

/-- `ROM_BOUNDARY`: the first writable address (R6, R51, D4). DESIGN CHOICE of the spec: a named parameter with this default. -/
abbrev romBoundary : Nat := 0x8000

/-- `BANK_SIZE`: the size of each ROM window (R6, C1). -/
abbrev bankSize : Nat := 0x4000

/-- `FIXED_BANK_BASE` (R6, R51). -/
abbrev fixedBankBase : Nat := 0x0000

/-- `SWITCH_BANK_BASE` (R6, R51). -/
abbrev switchBankBase : Nat := 0x4000

/-- `PREFIX`: the extended-opcode byte (R6, R92). -/
abbrev extendedByte : Byte := 0xCB

/-- `HIGH_PAGE`: the base of the `LDH` forms (R6, R100). -/
abbrev highPage : Word := 0xFF00

/-- `RESET_PC` (R6, R31). -/
abbrev resetPc : Word := 0x0000

/-- `RESET_SP` (R6, R31). -/
abbrev resetSp : Word := 0x0000

/-- FREE VALUE. What a fatal fault leaves of the state it happened in: "**not defined** and no theorem may depend on it" (R343, D14;
93_implementation_defined.md I8; log 6). -/
opaque afterFault {State : Type} [Inhabited State] (before : State) : State

end Sys2Proof.Config
end

