-- ==== Sys2Proof/Machine/State.lean ====
section
/-! DEFINITION. The state of the machine (10_state.md), the reasons a step can stop, and the state after reset. -/

namespace Sys2Proof.Machine

/-- The two run states (R26, R358): `LowPower` is "halted awaiting interrupt". -/
inductive RunState
  | running
  | lowPower
  deriving DecidableEq, Repr, Inhabited

/-- The memory: the bytes that are not 0x00, by strictly rising address; an address that is not listed reads 0x00 (R28, R31). -/
abbrev Memory := List Host.Cell

/-- The two fatal faults of 60_exceptions.md R340. Both are terminal (R343). -/
inductive Fault
  /-- R341: a 16-bit access whose first byte is at 0xFFFF, raised by `read16` and `write16` (an operand word at 0xFFFF, a stack
  access, `LD (a16),SP`). Safe: the machine stops for good exactly there. -/
  | fatalBoundsError
  /-- R342: a bus write to an address below `ROM_BOUNDARY`, raised by `write8` and `write16`. Safe: the machine stops for good
  exactly there. -/
  | fatalWriteProtectionError
  deriving DecidableEq, Repr

/-- Why a step is refused. -/
inductive Refusal
  /-- An instruction that has no meaning in the model, raised by `exec`'s arm for it; no arm raises it. Safe. -/
  | notModelled (mnemonic : String)
  /-- The fetched bytes do not decode, raised by `step`. It never happens: decoding is total (R109). Safe. -/
  | undecodedBytes
  /-- A step after a fatal fault without a reset, raised by `step` when the faulted mark is set: "no further step is defined"
  (R343, R33). Safe. -/
  | stepAfterFatalFault
  deriving DecidableEq, Repr

/-- Everything the spec gives the machine (10_state.md R20 to R33). -/
structure State where
  /-- `A`, the accumulator (R20). -/
  a : Byte
  /-- `F`, the flag byte: fZ fN fH fC in bits 7 to 4, bits 3:0 always zero (R20, R22). -/
  f : Byte
  /-- `B` (R20). -/
  b : Byte
  /-- `C` (R20). -/
  c : Byte
  /-- `D` (R20). -/
  d : Byte
  /-- `E` (R20). -/
  e : Byte
  /-- `H` (R20). -/
  h : Byte
  /-- `L` (R20). -/
  l : Byte
  /-- `SP` (R24). -/
  sp : Word
  /-- `PC` (R25). -/
  pc : Word
  /-- `RUN` (R26). -/
  run : RunState
  /-- `IME`, the interrupt-enable flag (R27). -/
  ime : Bool
  /-- `mem` (R28). -/
  mem : Memory
  /-- The terminal faulted mark a model needs (R33, R343). -/
  faulted : Bool
  deriving DecidableEq, Repr, Inhabited

/-- The state after reset (R31, R380). -/
def State.reset : State where
  a := 0x00
  f := 0x00
  b := 0x00
  c := 0x00
  d := 0x00
  e := 0x00
  h := 0x00
  l := 0x00
  sp := Config.resetSp
  pc := Config.resetPc
  run := .running
  ime := false
  mem := []
  faulted := false

/-- What executing an instruction answers: a next state, a fault or a refusal (00_scope.md R8). -/
abbrev Result := Host.Outcome State Fault Refusal

end Sys2Proof.Machine
end

