-- ==== Sys2Proof/Machine/Ops.lean ====
section
/-! DEFINITION. The shared operations over memory and the program counter: the bus primitives of 20_memory.md, the stack
primitives of 41_load16_stack.md, the default advance of 30_encoding.md R90, and raising a fault (60_exceptions.md R343). -/

namespace Sys2Proof.Machine

/-! ## The memory list -/

/-- The byte at an address: the listed one, else 0x00 (R28, R31, R52). -/
def Memory.read : Memory → Nat → Byte
  | [], _ => 0x00
  | (k, v) :: rest, a => if k = a then v else Memory.read rest a

/-- Put a byte before the cells it comes before; 0x00 is not listed. -/
def Memory.consCell (a : Nat) (v : Byte) (m : Memory) : Memory := if v = 0x00 then m else (a, v) :: m

/-- Store one byte, keeping the canonical form (R54: "No other byte changes"). -/
def Memory.write : Memory → Nat → Byte → Memory
  | [], a, v => Memory.consCell a v []
  | (k, u) :: rest, a, v =>
    if a < k then Memory.consCell a v ((k, u) :: rest)
    else if a = k then Memory.consCell a v rest
    else (k, u) :: Memory.write rest a v

/-- Store consecutive bytes from an address on; used by the mounts, which do not wrap (R58). -/
def Memory.writeBytes : Memory → Nat → List Byte → Memory
  | m, _, [] => m
  | m, a, v :: vs => Memory.writeBytes (Memory.write m a v) (a + 1) vs

/-- Addresses strictly rise from `lo` on and stay inside the address space; no cell holds 0x00. -/
def Memory.wfFrom : Nat → Memory → Bool
  | _, [] => true
  | lo, (k, v) :: rest => decide (lo ≤ k) && decide (k < Config.memSize) && decide (v ≠ 0x00) && Memory.wfFrom (k + 1) rest

/-- The canonical form: equal memories are equal lists. -/
def Memory.wf (m : Memory) : Bool := Memory.wfFrom 0 m

/-! ## Outcomes -/

/-- Go on from a next state; a fault or a refusal ends the step at once (R60, R90). -/
def Result.andThen (r : Result) (k : State → Result) : Result :=
  match r with
  | .next s => k s
  | .fault x => .fault x
  | .refused x => .refused x

/-- `raise Fault(kind)` (R10). The ONE thing that happens when a primitive faults: the step ends with the fault as its outcome;
no state is saved, `PC` is not redirected, no handler runs (R343, R348), so there is no exception entry and no return from one
(R352: RETI is an ordinary return that also sets `IME`). -/
def raiseFault (kind : Fault) : Result := .fault kind

/-! ## The bus primitives -/

/-- `read8` (R52): never faults, changes nothing. -/
def State.read8 (s : State) (address : Word) : Byte := s.mem.read address.toNat

/-- `read16` (R53, R56): little-endian; at 0xFFFF the second byte has no address. -/
def State.read16 (s : State) (address : Word) : Except Fault Word :=
  if address = 0xFFFF then .error .fatalBoundsError
  else .ok (wordOf (s.read8 (address + 1)) (s.read8 address))

/-- `write8` (R54). -/
def State.write8 (s : State) (address : Word) (v : Byte) : Result :=
  if address.toNat < Config.romBoundary then raiseFault .fatalWriteProtectionError
  else .next { s with mem := s.mem.write address.toNat v }

/-- `write16` (R55): both checks come before either store. -/
def State.write16 (s : State) (address : Word) (v : Word) : Result :=
  if address.toNat < Config.romBoundary then raiseFault .fatalWriteProtectionError
  else if address = 0xFFFF then raiseFault .fatalBoundsError
  else .next { s with mem := (s.mem.write address.toNat (loByte v)).write (address.toNat + 1) (hiByte v) }

/-- Read a word and go on with it, or end with the fault of `read16`. -/
def State.withRead16 (s : State) (address : Word) (k : Word → Result) : Result :=
  match s.read16 address with
  | .error x => raiseFault x
  | .ok v => k v

/-- `increment8` (R57). -/
def State.increment8 (s : State) (address : Word) : Result := s.write8 address (s.read8 address + 1)

/-- `decrement8` (R57). -/
def State.decrement8 (s : State) (address : Word) : Result := s.write8 address (s.read8 address - 1)

/-- `increment16` (R57). -/
def State.increment16 (s : State) (address : Word) : Result := s.withRead16 address fun v => s.write16 address (v + 1)

/-- `decrement16` (R57). -/
def State.decrement16 (s : State) (address : Word) : Result := s.withRead16 address fun v => s.write16 address (v - 1)

/-! ## The stack primitives -/

/-- `push16(v)` (R170): the decrement first, then the write at the new `SP`. -/
def State.push16 (s : State) (v : Word) : Result := State.write16 { s with sp := s.sp - 2 } (s.sp - 2) v

/-- `pop16()` (R171): the read at `SP` first, then the increment; `k` gets the word and the state after the pop. -/
def State.withPop16 (s : State) (k : Word → State → Result) : Result :=
  s.withRead16 s.sp fun v => k v { s with sp := s.sp + 2 }

/-! ## The program counter -/

/-- `next`, the address of the instruction after one of `len` bytes (R10, R90). -/
def State.nextPc (s : State) (len : Word) : Word := s.pc + len

/-- The default advance of step 5 of R90: `PC <- (PC + length) mod 65536`. -/
def State.advance (s : State) (len : Word) : State := { s with pc := s.nextPc len }

/-- `PC <- target`: the instruction sets the program counter itself (R10, R90). -/
def State.jumpTo (s : State) (target : Word) : State := { s with pc := target }

/-- An operation that ends with the default advance. -/
def finish (len : Word) (s : State) : Result := .next (s.advance len)

end Sys2Proof.Machine
end

