-- ==== Sys2Proof/Syntax.lean ====
section
/-! DEFINITION. The instructions: one constructor of `Instr` per row of opcode_table.json (30_encoding.md R110), and the names
the spec gives to register, pair, condition, operation and operand indices (R95 to R99). -/

namespace Sys2Proof

/-- The seven registers an `r8` index can name (R95; index 6 never means `F`). -/
inductive Reg8
  | b
  | c
  | d
  | e
  | h
  | l
  | a
  deriving DecidableEq, Repr

/-- The 8-bit operand of an `r8` index: a register, or `(HL)`, the byte at address `HL` (R95). -/
inductive Operand8
  | reg (r : Reg8)
  | atHl
  deriving DecidableEq, Repr

/-- `r16[p]`: the 16-bit operand of loads and arithmetic (R96). -/
inductive Reg16
  | bc
  | de
  | hl
  | sp
  deriving DecidableEq, Repr

/-- `r16stk[p]`: the pair of PUSH and POP (R96). -/
inductive StackPair
  | bc
  | de
  | hl
  | af
  deriving DecidableEq, Repr

/-- `cc[i]`: the four conditions (R97). -/
inductive Cond
  | nz
  | z
  | nc
  | c
  deriving DecidableEq, Repr

/-- `alu[y]`: the 8-bit arithmetic and logic operations (R98). -/
inductive AluOp
  | add
  | adc
  | sub
  | sbc
  | and
  | xor
  | or
  | cp
  deriving DecidableEq, Repr

/-- `rot[y]`: the rotates and shifts of the extended table (R99). -/
inductive RotOp
  | rlc
  | rrc
  | rl
  | rr
  | sla
  | sra
  | swap
  | srl
  deriving DecidableEq, Repr

/-- The 512 entries of the two descriptor tables (R91, R101, R102). An inline operand
(R100) is a field; a register operand is part of the name, as in opcode_table.json (`At` reads "the byte at"). The rows with an
inline operand stand first. -/
inductive Instr
  /-- `LD BC,n16` (R172) -/
  | ldBcN16 (n16 : Word)
  /-- `LD B,n8` (R131) -/
  | ldBN8 (n8 : Byte)
  /-- `LD (a16),SP` (R173) -/
  | ldAtA16Sp (a16 : Word)
  /-- `LD C,n8` (R131) -/
  | ldCN8 (n8 : Byte)
  /-- `LD DE,n16` (R172) -/
  | ldDeN16 (n16 : Word)
  /-- `LD D,n8` (R131) -/
  | ldDN8 (n8 : Byte)
  /-- `JR e8` (R303) -/
  | jrE8 (e8 : Byte)
  /-- `LD E,n8` (R131) -/
  | ldEN8 (n8 : Byte)
  /-- `JR NZ,e8` (R304) -/
  | jrNzE8 (e8 : Byte)
  /-- `LD HL,n16` (R172) -/
  | ldHlN16 (n16 : Word)
  /-- `LD H,n8` (R131) -/
  | ldHN8 (n8 : Byte)
  /-- `JR Z,e8` (R304) -/
  | jrZE8 (e8 : Byte)
  /-- `LD L,n8` (R131) -/
  | ldLN8 (n8 : Byte)
  /-- `JR NC,e8` (R304) -/
  | jrNcE8 (e8 : Byte)
  /-- `LD SP,n16` (R172) -/
  | ldSpN16 (n16 : Word)
  /-- `LD (HL),n8` (R134) -/
  | ldAtHlN8 (n8 : Byte)
  /-- `JR C,e8` (R304) -/
  | jrCE8 (e8 : Byte)
  /-- `LD A,n8` (R131) -/
  | ldAN8 (n8 : Byte)
  /-- `JP NZ,a16` (R301) -/
  | jpNzA16 (a16 : Word)
  /-- `JP a16` (R300) -/
  | jpA16 (a16 : Word)
  /-- `CALL NZ,a16` (R306) -/
  | callNzA16 (a16 : Word)
  /-- `ADD A,n8` (R200) -/
  | addAN8 (n8 : Byte)
  /-- `JP Z,a16` (R301) -/
  | jpZA16 (a16 : Word)
  /-- `CALL Z,a16` (R306) -/
  | callZA16 (a16 : Word)
  /-- `CALL a16` (R305) -/
  | callA16 (a16 : Word)
  /-- `ADC A,n8` (R203) -/
  | adcAN8 (n8 : Byte)
  /-- `JP NC,a16` (R301) -/
  | jpNcA16 (a16 : Word)
  /-- `CALL NC,a16` (R306) -/
  | callNcA16 (a16 : Word)
  /-- `SUB n8` (R206) -/
  | subN8 (n8 : Byte)
  /-- `JP C,a16` (R301) -/
  | jpCA16 (a16 : Word)
  /-- `CALL C,a16` (R306) -/
  | callCA16 (a16 : Word)
  /-- `SBC A,n8` (R209) -/
  | sbcAN8 (n8 : Byte)
  /-- `LDH (a8),A` (R142) -/
  | ldhAtA8A (a8 : Byte)
  /-- `AND n8` (R212) -/
  | andN8 (n8 : Byte)
  /-- `ADD SP,e8` (R243) -/
  | addSpE8 (e8 : Byte)
  /-- `LD (a16),A` (R140) -/
  | ldAtA16A (a16 : Word)
  /-- `XOR n8` (R215) -/
  | xorN8 (n8 : Byte)
  /-- `LDH A,(a8)` (R141) -/
  | ldhAAtA8 (a8 : Byte)
  /-- `OR n8` (R218) -/
  | orN8 (n8 : Byte)
  /-- `LD HL,SP+e8` (R175) -/
  | ldHlSpE8 (e8 : Byte)
  /-- `LD A,(a16)` (R139) -/
  | ldAAtA16 (a16 : Word)
  /-- `CP n8` (R221) -/
  | cpN8 (n8 : Byte)
  /-- `NOP` (R320) -/
  | nop
  /-- `LD (BC),A` (R137) -/
  | ldAtBcA
  /-- `INC BC` (R241) -/
  | incBc
  /-- `INC B` (R224) -/
  | incB
  /-- `DEC B` (R226) -/
  | decB
  /-- `RLCA` (R250) -/
  | rlca
  /-- `ADD HL,BC` (R240) -/
  | addHlBc
  /-- `LD A,(BC)` (R135) -/
  | ldAAtBc
  /-- `DEC BC` (R242) -/
  | decBc
  /-- `INC C` (R224) -/
  | incC
  /-- `DEC C` (R226) -/
  | decC
  /-- `RRCA` (R251) -/
  | rrca
  /-- `STOP` (R322) -/
  | stop
  /-- `LD (DE),A` (R138) -/
  | ldAtDeA
  /-- `INC DE` (R241) -/
  | incDe
  /-- `INC D` (R224) -/
  | incD
  /-- `DEC D` (R226) -/
  | decD
  /-- `RLA` (R252) -/
  | rla
  /-- `ADD HL,DE` (R240) -/
  | addHlDe
  /-- `LD A,(DE)` (R136) -/
  | ldAAtDe
  /-- `DEC DE` (R242) -/
  | decDe
  /-- `INC E` (R224) -/
  | incE
  /-- `DEC E` (R226) -/
  | decE
  /-- `RRA` (R253) -/
  | rra
  /-- `LDI (HL),A` (R145) -/
  | ldiAtHlA
  /-- `INC HL` (R241) -/
  | incHl
  /-- `INC H` (R224) -/
  | incH
  /-- `DEC H` (R226) -/
  | decH
  /-- `DAA` (R228) -/
  | daa
  /-- `ADD HL,HL` (R240) -/
  | addHlHl
  /-- `LDI A,(HL)` (R146) -/
  | ldiAAtHl
  /-- `DEC HL` (R242) -/
  | decHl
  /-- `INC L` (R224) -/
  | incL
  /-- `DEC L` (R226) -/
  | decL
  /-- `CPL` (R229) -/
  | cpl
  /-- `LDD (HL),A` (R147) -/
  | lddAtHlA
  /-- `INC SP` (R241) -/
  | incSp
  /-- `INC (HL)` (R225) -/
  | incAtHl
  /-- `DEC (HL)` (R227) -/
  | decAtHl
  /-- `SCF` (R230) -/
  | scf
  /-- `ADD HL,SP` (R240) -/
  | addHlSp
  /-- `LDD A,(HL)` (R148) -/
  | lddAAtHl
  /-- `DEC SP` (R242) -/
  | decSp
  /-- `INC A` (R224) -/
  | incA
  /-- `DEC A` (R226) -/
  | decA
  /-- `CCF` (R231) -/
  | ccf
  /-- `LD B,B` (R130) -/
  | ldBB
  /-- `LD B,C` (R130) -/
  | ldBC
  /-- `LD B,D` (R130) -/
  | ldBD
  /-- `LD B,E` (R130) -/
  | ldBE
  /-- `LD B,H` (R130) -/
  | ldBH
  /-- `LD B,L` (R130) -/
  | ldBL
  /-- `LD B,(HL)` (R132) -/
  | ldBAtHl
  /-- `LD B,A` (R130) -/
  | ldBA
  /-- `LD C,B` (R130) -/
  | ldCB
  /-- `LD C,C` (R130) -/
  | ldCC
  /-- `LD C,D` (R130) -/
  | ldCD
  /-- `LD C,E` (R130) -/
  | ldCE
  /-- `LD C,H` (R130) -/
  | ldCH
  /-- `LD C,L` (R130) -/
  | ldCL
  /-- `LD C,(HL)` (R132) -/
  | ldCAtHl
  /-- `LD C,A` (R130) -/
  | ldCA
  /-- `LD D,B` (R130) -/
  | ldDB
  /-- `LD D,C` (R130) -/
  | ldDC
  /-- `LD D,D` (R130) -/
  | ldDD
  /-- `LD D,E` (R130) -/
  | ldDE
  /-- `LD D,H` (R130) -/
  | ldDH
  /-- `LD D,L` (R130) -/
  | ldDL
  /-- `LD D,(HL)` (R132) -/
  | ldDAtHl
  /-- `LD D,A` (R130) -/
  | ldDA
  /-- `LD E,B` (R130) -/
  | ldEB
  /-- `LD E,C` (R130) -/
  | ldEC
  /-- `LD E,D` (R130) -/
  | ldED
  /-- `LD E,E` (R130) -/
  | ldEE
  /-- `LD E,H` (R130) -/
  | ldEH
  /-- `LD E,L` (R130) -/
  | ldEL
  /-- `LD E,(HL)` (R132) -/
  | ldEAtHl
  /-- `LD E,A` (R130) -/
  | ldEA
  /-- `LD H,B` (R130) -/
  | ldHB
  /-- `LD H,C` (R130) -/
  | ldHC
  /-- `LD H,D` (R130) -/
  | ldHD
  /-- `LD H,E` (R130) -/
  | ldHE
  /-- `LD H,H` (R130) -/
  | ldHH
  /-- `LD H,L` (R130) -/
  | ldHL
  /-- `LD H,(HL)` (R132) -/
  | ldHAtHl
  /-- `LD H,A` (R130) -/
  | ldHA
  /-- `LD L,B` (R130) -/
  | ldLB
  /-- `LD L,C` (R130) -/
  | ldLC
  /-- `LD L,D` (R130) -/
  | ldLD
  /-- `LD L,E` (R130) -/
  | ldLE
  /-- `LD L,H` (R130) -/
  | ldLH
  /-- `LD L,L` (R130) -/
  | ldLL
  /-- `LD L,(HL)` (R132) -/
  | ldLAtHl
  /-- `LD L,A` (R130) -/
  | ldLA
  /-- `LD (HL),B` (R133) -/
  | ldAtHlB
  /-- `LD (HL),C` (R133) -/
  | ldAtHlC
  /-- `LD (HL),D` (R133) -/
  | ldAtHlD
  /-- `LD (HL),E` (R133) -/
  | ldAtHlE
  /-- `LD (HL),H` (R133) -/
  | ldAtHlH
  /-- `LD (HL),L` (R133) -/
  | ldAtHlL
  /-- `HALT` (R321) -/
  | halt
  /-- `LD (HL),A` (R133) -/
  | ldAtHlA
  /-- `LD A,B` (R130) -/
  | ldAB
  /-- `LD A,C` (R130) -/
  | ldAC
  /-- `LD A,D` (R130) -/
  | ldAD
  /-- `LD A,E` (R130) -/
  | ldAE
  /-- `LD A,H` (R130) -/
  | ldAH
  /-- `LD A,L` (R130) -/
  | ldAL
  /-- `LD A,(HL)` (R132) -/
  | ldAAtHl
  /-- `LD A,A` (R130) -/
  | ldAA
  /-- `ADD A,B` (R198) -/
  | addAB
  /-- `ADD A,C` (R198) -/
  | addAC
  /-- `ADD A,D` (R198) -/
  | addAD
  /-- `ADD A,E` (R198) -/
  | addAE
  /-- `ADD A,H` (R198) -/
  | addAH
  /-- `ADD A,L` (R198) -/
  | addAL
  /-- `ADD A,(HL)` (R199) -/
  | addAAtHl
  /-- `ADD A,A` (R198) -/
  | addAA
  /-- `ADC A,B` (R201) -/
  | adcAB
  /-- `ADC A,C` (R201) -/
  | adcAC
  /-- `ADC A,D` (R201) -/
  | adcAD
  /-- `ADC A,E` (R201) -/
  | adcAE
  /-- `ADC A,H` (R201) -/
  | adcAH
  /-- `ADC A,L` (R201) -/
  | adcAL
  /-- `ADC A,(HL)` (R202) -/
  | adcAAtHl
  /-- `ADC A,A` (R201) -/
  | adcAA
  /-- `SUB B` (R204) -/
  | subB
  /-- `SUB C` (R204) -/
  | subC
  /-- `SUB D` (R204) -/
  | subD
  /-- `SUB E` (R204) -/
  | subE
  /-- `SUB H` (R204) -/
  | subH
  /-- `SUB L` (R204) -/
  | subL
  /-- `SUB (HL)` (R205) -/
  | subAtHl
  /-- `SUB A` (R204) -/
  | subA
  /-- `SBC A,B` (R207) -/
  | sbcAB
  /-- `SBC A,C` (R207) -/
  | sbcAC
  /-- `SBC A,D` (R207) -/
  | sbcAD
  /-- `SBC A,E` (R207) -/
  | sbcAE
  /-- `SBC A,H` (R207) -/
  | sbcAH
  /-- `SBC A,L` (R207) -/
  | sbcAL
  /-- `SBC A,(HL)` (R208) -/
  | sbcAAtHl
  /-- `SBC A,A` (R207) -/
  | sbcAA
  /-- `AND B` (R210) -/
  | andB
  /-- `AND C` (R210) -/
  | andC
  /-- `AND D` (R210) -/
  | andD
  /-- `AND E` (R210) -/
  | andE
  /-- `AND H` (R210) -/
  | andH
  /-- `AND L` (R210) -/
  | andL
  /-- `AND (HL)` (R211) -/
  | andAtHl
  /-- `AND A` (R210) -/
  | andA
  /-- `XOR B` (R213) -/
  | xorB
  /-- `XOR C` (R213) -/
  | xorC
  /-- `XOR D` (R213) -/
  | xorD
  /-- `XOR E` (R213) -/
  | xorE
  /-- `XOR H` (R213) -/
  | xorH
  /-- `XOR L` (R213) -/
  | xorL
  /-- `XOR (HL)` (R214) -/
  | xorAtHl
  /-- `XOR A` (R213) -/
  | xorA
  /-- `OR B` (R216) -/
  | orB
  /-- `OR C` (R216) -/
  | orC
  /-- `OR D` (R216) -/
  | orD
  /-- `OR E` (R216) -/
  | orE
  /-- `OR H` (R216) -/
  | orH
  /-- `OR L` (R216) -/
  | orL
  /-- `OR (HL)` (R217) -/
  | orAtHl
  /-- `OR A` (R216) -/
  | orA
  /-- `CP B` (R219) -/
  | cpB
  /-- `CP C` (R219) -/
  | cpC
  /-- `CP D` (R219) -/
  | cpD
  /-- `CP E` (R219) -/
  | cpE
  /-- `CP H` (R219) -/
  | cpH
  /-- `CP L` (R219) -/
  | cpL
  /-- `CP (HL)` (R220) -/
  | cpAtHl
  /-- `CP A` (R219) -/
  | cpA
  /-- `RET NZ` (R309) -/
  | retNz
  /-- `POP BC` (R177) -/
  | popBc
  /-- `PUSH BC` (R176) -/
  | pushBc
  /-- `RST 00H` (R311) -/
  | rst00
  /-- `RET Z` (R309) -/
  | retZ
  /-- `RET` (R308) -/
  | ret
  /-- `PREFIX CB` (R92) -/
  | prefixCb
  /-- `RST 08H` (R311) -/
  | rst08
  /-- `RET NC` (R309) -/
  | retNc
  /-- `POP DE` (R177) -/
  | popDe
  /-- `ILLEGAL_D3` (R326) -/
  | illegalD3
  /-- `PUSH DE` (R176) -/
  | pushDe
  /-- `RST 10H` (R311) -/
  | rst10
  /-- `RET C` (R309) -/
  | retC
  /-- `RETI` (R310) -/
  | reti
  /-- `ILLEGAL_DB` (R326) -/
  | illegalDB
  /-- `ILLEGAL_DD` (R326) -/
  | illegalDD
  /-- `RST 18H` (R311) -/
  | rst18
  /-- `POP HL` (R177) -/
  | popHl
  /-- `LDH (C),A` (R144) -/
  | ldhAtCA
  /-- `ILLEGAL_E3` (R326) -/
  | illegalE3
  /-- `ILLEGAL_E4` (R326) -/
  | illegalE4
  /-- `PUSH HL` (R176) -/
  | pushHl
  /-- `RST 20H` (R311) -/
  | rst20
  /-- `JP HL` (R302) -/
  | jpHl
  /-- `ILLEGAL_EB` (R326) -/
  | illegalEB
  /-- `ILLEGAL_EC` (R326) -/
  | illegalEC
  /-- `ILLEGAL_ED` (R326) -/
  | illegalED
  /-- `RST 28H` (R311) -/
  | rst28
  /-- `POP AF` (R178) -/
  | popAf
  /-- `LDH A,(C)` (R143) -/
  | ldhAAtC
  /-- `DI` (R323) -/
  | di
  /-- `ILLEGAL_F4` (R326) -/
  | illegalF4
  /-- `PUSH AF` (R176) -/
  | pushAf
  /-- `RST 30H` (R311) -/
  | rst30
  /-- `LD SP,HL` (R174) -/
  | ldSpHl
  /-- `EI` (R324) -/
  | ei
  /-- `ILLEGAL_FC` (R326) -/
  | illegalFC
  /-- `ILLEGAL_FD` (R326) -/
  | illegalFD
  /-- `RST 38H` (R311) -/
  | rst38
  /-- `RLC B` (R262) -/
  | rlcB
  /-- `RLC C` (R262) -/
  | rlcC
  /-- `RLC D` (R262) -/
  | rlcD
  /-- `RLC E` (R262) -/
  | rlcE
  /-- `RLC H` (R262) -/
  | rlcH
  /-- `RLC L` (R262) -/
  | rlcL
  /-- `RLC (HL)` (R263) -/
  | rlcAtHl
  /-- `RLC A` (R262) -/
  | rlcA
  /-- `RRC B` (R264) -/
  | rrcB
  /-- `RRC C` (R264) -/
  | rrcC
  /-- `RRC D` (R264) -/
  | rrcD
  /-- `RRC E` (R264) -/
  | rrcE
  /-- `RRC H` (R264) -/
  | rrcH
  /-- `RRC L` (R264) -/
  | rrcL
  /-- `RRC (HL)` (R265) -/
  | rrcAtHl
  /-- `RRC A` (R264) -/
  | rrcA
  /-- `RL B` (R266) -/
  | rlB
  /-- `RL C` (R266) -/
  | rlC
  /-- `RL D` (R266) -/
  | rlD
  /-- `RL E` (R266) -/
  | rlE
  /-- `RL H` (R266) -/
  | rlH
  /-- `RL L` (R266) -/
  | rlL
  /-- `RL (HL)` (R267) -/
  | rlAtHl
  /-- `RL A` (R266) -/
  | rlA
  /-- `RR B` (R268) -/
  | rrB
  /-- `RR C` (R268) -/
  | rrC
  /-- `RR D` (R268) -/
  | rrD
  /-- `RR E` (R268) -/
  | rrE
  /-- `RR H` (R268) -/
  | rrH
  /-- `RR L` (R268) -/
  | rrL
  /-- `RR (HL)` (R269) -/
  | rrAtHl
  /-- `RR A` (R268) -/
  | rrA
  /-- `SLA B` (R270) -/
  | slaB
  /-- `SLA C` (R270) -/
  | slaC
  /-- `SLA D` (R270) -/
  | slaD
  /-- `SLA E` (R270) -/
  | slaE
  /-- `SLA H` (R270) -/
  | slaH
  /-- `SLA L` (R270) -/
  | slaL
  /-- `SLA (HL)` (R271) -/
  | slaAtHl
  /-- `SLA A` (R270) -/
  | slaA
  /-- `SRA B` (R272) -/
  | sraB
  /-- `SRA C` (R272) -/
  | sraC
  /-- `SRA D` (R272) -/
  | sraD
  /-- `SRA E` (R272) -/
  | sraE
  /-- `SRA H` (R272) -/
  | sraH
  /-- `SRA L` (R272) -/
  | sraL
  /-- `SRA (HL)` (R273) -/
  | sraAtHl
  /-- `SRA A` (R272) -/
  | sraA
  /-- `SWAP B` (R274) -/
  | swapB
  /-- `SWAP C` (R274) -/
  | swapC
  /-- `SWAP D` (R274) -/
  | swapD
  /-- `SWAP E` (R274) -/
  | swapE
  /-- `SWAP H` (R274) -/
  | swapH
  /-- `SWAP L` (R274) -/
  | swapL
  /-- `SWAP (HL)` (R275) -/
  | swapAtHl
  /-- `SWAP A` (R274) -/
  | swapA
  /-- `SRL B` (R276) -/
  | srlB
  /-- `SRL C` (R276) -/
  | srlC
  /-- `SRL D` (R276) -/
  | srlD
  /-- `SRL E` (R276) -/
  | srlE
  /-- `SRL H` (R276) -/
  | srlH
  /-- `SRL L` (R276) -/
  | srlL
  /-- `SRL (HL)` (R277) -/
  | srlAtHl
  /-- `SRL A` (R276) -/
  | srlA
  /-- `BIT 0,B` (R278) -/
  | bit0B
  /-- `BIT 0,C` (R278) -/
  | bit0C
  /-- `BIT 0,D` (R278) -/
  | bit0D
  /-- `BIT 0,E` (R278) -/
  | bit0E
  /-- `BIT 0,H` (R278) -/
  | bit0H
  /-- `BIT 0,L` (R278) -/
  | bit0L
  /-- `BIT 0,(HL)` (R279) -/
  | bit0AtHl
  /-- `BIT 0,A` (R278) -/
  | bit0A
  /-- `BIT 1,B` (R278) -/
  | bit1B
  /-- `BIT 1,C` (R278) -/
  | bit1C
  /-- `BIT 1,D` (R278) -/
  | bit1D
  /-- `BIT 1,E` (R278) -/
  | bit1E
  /-- `BIT 1,H` (R278) -/
  | bit1H
  /-- `BIT 1,L` (R278) -/
  | bit1L
  /-- `BIT 1,(HL)` (R279) -/
  | bit1AtHl
  /-- `BIT 1,A` (R278) -/
  | bit1A
  /-- `BIT 2,B` (R278) -/
  | bit2B
  /-- `BIT 2,C` (R278) -/
  | bit2C
  /-- `BIT 2,D` (R278) -/
  | bit2D
  /-- `BIT 2,E` (R278) -/
  | bit2E
  /-- `BIT 2,H` (R278) -/
  | bit2H
  /-- `BIT 2,L` (R278) -/
  | bit2L
  /-- `BIT 2,(HL)` (R279) -/
  | bit2AtHl
  /-- `BIT 2,A` (R278) -/
  | bit2A
  /-- `BIT 3,B` (R278) -/
  | bit3B
  /-- `BIT 3,C` (R278) -/
  | bit3C
  /-- `BIT 3,D` (R278) -/
  | bit3D
  /-- `BIT 3,E` (R278) -/
  | bit3E
  /-- `BIT 3,H` (R278) -/
  | bit3H
  /-- `BIT 3,L` (R278) -/
  | bit3L
  /-- `BIT 3,(HL)` (R279) -/
  | bit3AtHl
  /-- `BIT 3,A` (R278) -/
  | bit3A
  /-- `BIT 4,B` (R278) -/
  | bit4B
  /-- `BIT 4,C` (R278) -/
  | bit4C
  /-- `BIT 4,D` (R278) -/
  | bit4D
  /-- `BIT 4,E` (R278) -/
  | bit4E
  /-- `BIT 4,H` (R278) -/
  | bit4H
  /-- `BIT 4,L` (R278) -/
  | bit4L
  /-- `BIT 4,(HL)` (R279) -/
  | bit4AtHl
  /-- `BIT 4,A` (R278) -/
  | bit4A
  /-- `BIT 5,B` (R278) -/
  | bit5B
  /-- `BIT 5,C` (R278) -/
  | bit5C
  /-- `BIT 5,D` (R278) -/
  | bit5D
  /-- `BIT 5,E` (R278) -/
  | bit5E
  /-- `BIT 5,H` (R278) -/
  | bit5H
  /-- `BIT 5,L` (R278) -/
  | bit5L
  /-- `BIT 5,(HL)` (R279) -/
  | bit5AtHl
  /-- `BIT 5,A` (R278) -/
  | bit5A
  /-- `BIT 6,B` (R278) -/
  | bit6B
  /-- `BIT 6,C` (R278) -/
  | bit6C
  /-- `BIT 6,D` (R278) -/
  | bit6D
  /-- `BIT 6,E` (R278) -/
  | bit6E
  /-- `BIT 6,H` (R278) -/
  | bit6H
  /-- `BIT 6,L` (R278) -/
  | bit6L
  /-- `BIT 6,(HL)` (R279) -/
  | bit6AtHl
  /-- `BIT 6,A` (R278) -/
  | bit6A
  /-- `BIT 7,B` (R278) -/
  | bit7B
  /-- `BIT 7,C` (R278) -/
  | bit7C
  /-- `BIT 7,D` (R278) -/
  | bit7D
  /-- `BIT 7,E` (R278) -/
  | bit7E
  /-- `BIT 7,H` (R278) -/
  | bit7H
  /-- `BIT 7,L` (R278) -/
  | bit7L
  /-- `BIT 7,(HL)` (R279) -/
  | bit7AtHl
  /-- `BIT 7,A` (R278) -/
  | bit7A
  /-- `RES 0,B` (R280) -/
  | res0B
  /-- `RES 0,C` (R280) -/
  | res0C
  /-- `RES 0,D` (R280) -/
  | res0D
  /-- `RES 0,E` (R280) -/
  | res0E
  /-- `RES 0,H` (R280) -/
  | res0H
  /-- `RES 0,L` (R280) -/
  | res0L
  /-- `RES 0,(HL)` (R281) -/
  | res0AtHl
  /-- `RES 0,A` (R280) -/
  | res0A
  /-- `RES 1,B` (R280) -/
  | res1B
  /-- `RES 1,C` (R280) -/
  | res1C
  /-- `RES 1,D` (R280) -/
  | res1D
  /-- `RES 1,E` (R280) -/
  | res1E
  /-- `RES 1,H` (R280) -/
  | res1H
  /-- `RES 1,L` (R280) -/
  | res1L
  /-- `RES 1,(HL)` (R281) -/
  | res1AtHl
  /-- `RES 1,A` (R280) -/
  | res1A
  /-- `RES 2,B` (R280) -/
  | res2B
  /-- `RES 2,C` (R280) -/
  | res2C
  /-- `RES 2,D` (R280) -/
  | res2D
  /-- `RES 2,E` (R280) -/
  | res2E
  /-- `RES 2,H` (R280) -/
  | res2H
  /-- `RES 2,L` (R280) -/
  | res2L
  /-- `RES 2,(HL)` (R281) -/
  | res2AtHl
  /-- `RES 2,A` (R280) -/
  | res2A
  /-- `RES 3,B` (R280) -/
  | res3B
  /-- `RES 3,C` (R280) -/
  | res3C
  /-- `RES 3,D` (R280) -/
  | res3D
  /-- `RES 3,E` (R280) -/
  | res3E
  /-- `RES 3,H` (R280) -/
  | res3H
  /-- `RES 3,L` (R280) -/
  | res3L
  /-- `RES 3,(HL)` (R281) -/
  | res3AtHl
  /-- `RES 3,A` (R280) -/
  | res3A
  /-- `RES 4,B` (R280) -/
  | res4B
  /-- `RES 4,C` (R280) -/
  | res4C
  /-- `RES 4,D` (R280) -/
  | res4D
  /-- `RES 4,E` (R280) -/
  | res4E
  /-- `RES 4,H` (R280) -/
  | res4H
  /-- `RES 4,L` (R280) -/
  | res4L
  /-- `RES 4,(HL)` (R281) -/
  | res4AtHl
  /-- `RES 4,A` (R280) -/
  | res4A
  /-- `RES 5,B` (R280) -/
  | res5B
  /-- `RES 5,C` (R280) -/
  | res5C
  /-- `RES 5,D` (R280) -/
  | res5D
  /-- `RES 5,E` (R280) -/
  | res5E
  /-- `RES 5,H` (R280) -/
  | res5H
  /-- `RES 5,L` (R280) -/
  | res5L
  /-- `RES 5,(HL)` (R281) -/
  | res5AtHl
  /-- `RES 5,A` (R280) -/
  | res5A
  /-- `RES 6,B` (R280) -/
  | res6B
  /-- `RES 6,C` (R280) -/
  | res6C
  /-- `RES 6,D` (R280) -/
  | res6D
  /-- `RES 6,E` (R280) -/
  | res6E
  /-- `RES 6,H` (R280) -/
  | res6H
  /-- `RES 6,L` (R280) -/
  | res6L
  /-- `RES 6,(HL)` (R281) -/
  | res6AtHl
  /-- `RES 6,A` (R280) -/
  | res6A
  /-- `RES 7,B` (R280) -/
  | res7B
  /-- `RES 7,C` (R280) -/
  | res7C
  /-- `RES 7,D` (R280) -/
  | res7D
  /-- `RES 7,E` (R280) -/
  | res7E
  /-- `RES 7,H` (R280) -/
  | res7H
  /-- `RES 7,L` (R280) -/
  | res7L
  /-- `RES 7,(HL)` (R281) -/
  | res7AtHl
  /-- `RES 7,A` (R280) -/
  | res7A
  /-- `SET 0,B` (R282) -/
  | set0B
  /-- `SET 0,C` (R282) -/
  | set0C
  /-- `SET 0,D` (R282) -/
  | set0D
  /-- `SET 0,E` (R282) -/
  | set0E
  /-- `SET 0,H` (R282) -/
  | set0H
  /-- `SET 0,L` (R282) -/
  | set0L
  /-- `SET 0,(HL)` (R283) -/
  | set0AtHl
  /-- `SET 0,A` (R282) -/
  | set0A
  /-- `SET 1,B` (R282) -/
  | set1B
  /-- `SET 1,C` (R282) -/
  | set1C
  /-- `SET 1,D` (R282) -/
  | set1D
  /-- `SET 1,E` (R282) -/
  | set1E
  /-- `SET 1,H` (R282) -/
  | set1H
  /-- `SET 1,L` (R282) -/
  | set1L
  /-- `SET 1,(HL)` (R283) -/
  | set1AtHl
  /-- `SET 1,A` (R282) -/
  | set1A
  /-- `SET 2,B` (R282) -/
  | set2B
  /-- `SET 2,C` (R282) -/
  | set2C
  /-- `SET 2,D` (R282) -/
  | set2D
  /-- `SET 2,E` (R282) -/
  | set2E
  /-- `SET 2,H` (R282) -/
  | set2H
  /-- `SET 2,L` (R282) -/
  | set2L
  /-- `SET 2,(HL)` (R283) -/
  | set2AtHl
  /-- `SET 2,A` (R282) -/
  | set2A
  /-- `SET 3,B` (R282) -/
  | set3B
  /-- `SET 3,C` (R282) -/
  | set3C
  /-- `SET 3,D` (R282) -/
  | set3D
  /-- `SET 3,E` (R282) -/
  | set3E
  /-- `SET 3,H` (R282) -/
  | set3H
  /-- `SET 3,L` (R282) -/
  | set3L
  /-- `SET 3,(HL)` (R283) -/
  | set3AtHl
  /-- `SET 3,A` (R282) -/
  | set3A
  /-- `SET 4,B` (R282) -/
  | set4B
  /-- `SET 4,C` (R282) -/
  | set4C
  /-- `SET 4,D` (R282) -/
  | set4D
  /-- `SET 4,E` (R282) -/
  | set4E
  /-- `SET 4,H` (R282) -/
  | set4H
  /-- `SET 4,L` (R282) -/
  | set4L
  /-- `SET 4,(HL)` (R283) -/
  | set4AtHl
  /-- `SET 4,A` (R282) -/
  | set4A
  /-- `SET 5,B` (R282) -/
  | set5B
  /-- `SET 5,C` (R282) -/
  | set5C
  /-- `SET 5,D` (R282) -/
  | set5D
  /-- `SET 5,E` (R282) -/
  | set5E
  /-- `SET 5,H` (R282) -/
  | set5H
  /-- `SET 5,L` (R282) -/
  | set5L
  /-- `SET 5,(HL)` (R283) -/
  | set5AtHl
  /-- `SET 5,A` (R282) -/
  | set5A
  /-- `SET 6,B` (R282) -/
  | set6B
  /-- `SET 6,C` (R282) -/
  | set6C
  /-- `SET 6,D` (R282) -/
  | set6D
  /-- `SET 6,E` (R282) -/
  | set6E
  /-- `SET 6,H` (R282) -/
  | set6H
  /-- `SET 6,L` (R282) -/
  | set6L
  /-- `SET 6,(HL)` (R283) -/
  | set6AtHl
  /-- `SET 6,A` (R282) -/
  | set6A
  /-- `SET 7,B` (R282) -/
  | set7B
  /-- `SET 7,C` (R282) -/
  | set7C
  /-- `SET 7,D` (R282) -/
  | set7D
  /-- `SET 7,E` (R282) -/
  | set7E
  /-- `SET 7,H` (R282) -/
  | set7H
  /-- `SET 7,L` (R282) -/
  | set7L
  /-- `SET 7,(HL)` (R283) -/
  | set7AtHl
  /-- `SET 7,A` (R282) -/
  | set7A
  deriving DecidableEq, Repr

end Sys2Proof
end

