-- ==== Sys2Proof/Machine/Operands.lean ====
section
/-! DEFINITION. The operand forms: the registers by name (10_state.md R20), the pair views (R21), the operand tables of
30_encoding.md R95 to R97, and the addresses of the memory operands (R100). -/

namespace Sys2Proof.Machine

/-! ## 8-bit registers and operands -/

/-- Read a register by name (R20). -/
def State.reg (s : State) : Reg8 → Byte
  | .b => s.b
  | .c => s.c
  | .d => s.d
  | .e => s.e
  | .h => s.h
  | .l => s.l
  | .a => s.a

/-- Write a register by name (R20). -/
def State.setReg (s : State) (r : Reg8) (v : Byte) : State :=
  match r with
  | .b => { s with b := v }
  | .c => { s with c := v }
  | .d => { s with d := v }
  | .e => { s with e := v }
  | .h => { s with h := v }
  | .l => { s with l := v }
  | .a => { s with a := v }

/-! ## Pairs -/

/-- `AF` (R21). -/
def State.af (s : State) : Word := wordOf s.a s.f

/-- `BC` (R21). -/
def State.bc (s : State) : Word := wordOf s.b s.c

/-- `DE` (R21). -/
def State.de (s : State) : Word := wordOf s.d s.e

/-- `HL` (R21). -/
def State.hl (s : State) : Word := wordOf s.h s.l

/-- `AF <- v`: the low byte is masked, bits 3:0 of `F` stay zero (R21, R22). -/
def State.setAf (s : State) (v : Word) : State := { s with a := hiByte v, f := loByte v &&& 0xF0 }

/-- `BC <- v` (R21). -/
def State.setBc (s : State) (v : Word) : State := { s with b := hiByte v, c := loByte v }

/-- `DE <- v` (R21). -/
def State.setDe (s : State) (v : Word) : State := { s with d := hiByte v, e := loByte v }

/-- `HL <- v` (R21). -/
def State.setHl (s : State) (v : Word) : State := { s with h := hiByte v, l := loByte v }

/-- `SP <- v` (R24). -/
def State.setSp (s : State) (v : Word) : State := { s with sp := v }

/-- Read `r16[p]` (R96). -/
def State.pair (s : State) : Reg16 → Word
  | .bc => s.bc
  | .de => s.de
  | .hl => s.hl
  | .sp => s.sp

/-- Write `r16[p]` (R96). -/
def State.setPair (s : State) (p : Reg16) (v : Word) : State :=
  match p with
  | .bc => s.setBc v
  | .de => s.setDe v
  | .hl => s.setHl v
  | .sp => s.setSp v

/-- Read `r16stk[p]` (R96). -/
def State.stackPair (s : State) : StackPair → Word
  | .bc => s.bc
  | .de => s.de
  | .hl => s.hl
  | .af => s.af

/-- Write `r16stk[p]` (R96). -/
def State.setStackPair (s : State) (p : StackPair) (v : Word) : State :=
  match p with
  | .bc => s.setBc v
  | .de => s.setDe v
  | .hl => s.setHl v
  | .af => s.setAf v

/-! ## The operand `r8[i]` -/

/-- Read `r8[i]`: a register, or `MemRead(HL, 1)` (R95). -/
def State.operand (s : State) : Operand8 → Byte
  | .reg r => s.reg r
  | .atHl => s.read8 s.hl

/-- Write `r8[i]`: a register, or `MemWrite(HL, 1, v)`, which can fault (R95). -/
def State.setOperand (s : State) (o : Operand8) (v : Byte) : Result :=
  match o with
  | .reg r => .next (s.setReg r v)
  | .atHl => s.write8 s.hl v

/-! ## Addresses in the high page -/

/-- `0xFF00 + zext_16(a8)`, the address of the `LDH` forms (R100, R141, R143). -/
def highAddress (a8 : Byte) : Word := Config.highPage + zext16 a8

end Sys2Proof.Machine
end

