-- ==== Sys2Proof/Machine/Flags.lean ====
section
/-! DEFINITION. The flag byte (10_state.md R22) and every flag computation of the spec: the functions of 42_alu8.md, the
16-bit flag rules of 41_load16_stack.md R175 and 43_alu16.md, the rotate and shift functions of 44_rotate_shift_bit.md, and
condition evaluation (45_control_flow.md R307). -/

namespace Sys2Proof.Machine

/-! ## The flag byte -/

/-- The four flags as bits (R22). -/
structure FlagSet where
  /-- `fZ` -/
  z : Bool
  /-- `fN` -/
  n : Bool
  /-- `fH` -/
  h : Bool
  /-- `fC` -/
  c : Bool
  deriving DecidableEq, Repr

/-- `F = fZ*128 + fN*64 + fH*32 + fC*16` (R22); bits 3:0 are zero. -/
def FlagSet.toByte (g : FlagSet) : Byte := bitByte g.z 7 ||| bitByte g.n 6 ||| bitByte g.h 5 ||| bitByte g.c 4

/-- `fZ` (R22). -/
def State.fZ (s : State) : Bool := s.f.getLsbD 7

/-- `fN` (R22). -/
def State.fN (s : State) : Bool := s.f.getLsbD 6

/-- `fH` (R22). -/
def State.fH (s : State) : Bool := s.f.getLsbD 5

/-- `fC` (R22). -/
def State.fC (s : State) : Bool := s.f.getLsbD 4

/-- Write all four flags (R22, R23); a flag an instruction preserves is passed its old value. -/
def State.setFlags (s : State) (g : FlagSet) : State := { s with f := g.toByte }

/-- Condition evaluation (R97, R307). -/
def State.holds (s : State) : Cond → Bool
  | .nz => !s.fZ
  | .z => s.fZ
  | .nc => !s.fC
  | .c => s.fC

/-! ## The 8-bit functions of 42_alu8.md -/

/-- A result byte and the flags that go with it. -/
structure AluResult where
  /-- the result `r` -/
  value : Byte
  /-- `(fZ, fN, fH, fC)` -/
  flags : FlagSet
  deriving DecidableEq, Repr

/-- `add8(a, x)` (R190). -/
def add8 (a x : Byte) : AluResult :=
  { value := a + x
    flags :=
      { z := a + x == 0
        n := false
        h := decide (lowNibble a.toNat + lowNibble x.toNat > 0xF)
        c := decide (a.toNat + x.toNat > 0xFF) } }

/-- `x' = x + cin`, an exact integer 0 to 256, not reduced to 8 bits (R191, R193, D9). -/
abbrev withCarry (x : Byte) (cin : Bool) : Nat := x.toNat + cin.toNat

/-- `adc8(a, x, cin)` (R191): the carry is folded into the operand first and both flag tests mask that sum. -/
def adc8 (a x : Byte) (cin : Bool) : AluResult :=
  { value := BitVec.ofNat 8 (a.toNat + withCarry x cin)
    flags :=
      { z := BitVec.ofNat 8 (a.toNat + withCarry x cin) == 0
        n := false
        h := decide (lowNibble a.toNat + lowNibble (withCarry x cin) > 0xF)
        c := decide (a.toNat + withCarry x cin % 256 > 0xFF) } }

/-- `sub8(a, x)` (R192). -/
def sub8 (a x : Byte) : AluResult :=
  { value := a - x
    flags :=
      { z := a - x == 0
        n := true
        h := decide (lowNibble a.toNat < lowNibble x.toNat)
        c := decide (a.toNat < x.toNat) } }

/-- `sbc8(a, x, cin)` (R193, D9): the borrow test is on the exact `x'`, the half-borrow test on its low nibble. -/
def sbc8 (a x : Byte) (cin : Bool) : AluResult :=
  { value := a - BitVec.ofNat 8 (withCarry x cin)
    flags :=
      { z := a - BitVec.ofNat 8 (withCarry x cin) == 0
        n := true
        h := decide (lowNibble a.toNat < lowNibble (withCarry x cin))
        c := decide (a.toNat < withCarry x cin) } }

/-- `and8(a, x)` (R194). -/
def and8 (a x : Byte) : AluResult :=
  { value := a &&& x, flags := { z := a &&& x == 0, n := false, h := true, c := false } }

/-- `xor8(a, x)` (R195). -/
def xor8 (a x : Byte) : AluResult :=
  { value := a ^^^ x, flags := { z := a ^^^ x == 0, n := false, h := false, c := false } }

/-- `or8(a, x)` (R196). -/
def or8 (a x : Byte) : AluResult :=
  { value := a ||| x, flags := { z := a ||| x == 0, n := false, h := false, c := false } }

/-- `cp8(a, x)` (R197): the flags of `sub8`, the difference thrown away. -/
def cp8 (a x : Byte) : FlagSet := (sub8 a x).flags

/-- `inc8(v, cold)` (R222): `fC` is not touched. -/
def inc8 (v : Byte) (cold : Bool) : AluResult :=
  { value := v + 1
    flags := { z := v + 1 == 0, n := false, h := decide (lowNibble v.toNat + 1 > 0xF), c := cold } }

/-- `dec8(v, cold)` (R223): `fC` is not touched. -/
def dec8 (v : Byte) (cold : Bool) : AluResult :=
  { value := v - 1
    flags := { z := v - 1 == 0, n := true, h := decide (lowNibble v.toNat < 1), c := cold } }

/-- Does `DAA` add or subtract the low correction 0x06? (R228) -/
def daaLow (a : Byte) (g : FlagSet) : Bool := g.h || (!g.n && decide (lowNibble a.toNat > 0x9))

/-- Does `DAA` add or subtract the high correction 0x60? (R228) -/
def daaHigh (a : Byte) (g : FlagSet) : Bool := g.c || (!g.n && decide (a.toNat > 0x99))

/-- The correction `adj` of `DAA` (R228). -/
def daaAdjust (a : Byte) (g : FlagSet) : Byte :=
  (if daaLow a g then 0x06 else 0x00) ||| (if daaHigh a g then 0x60 else 0x00)

/-- The result of `DAA` (R228): `A` from `A` and the flags before. -/
def daaValue (a : Byte) (g : FlagSet) : Byte := if g.n then a - daaAdjust a g else a + daaAdjust a g

/-- `DAA` (R228, D24). -/
def daa8 (a : Byte) (g : FlagSet) : AluResult :=
  { value := daaValue a g
    flags := { z := daaValue a g == 0, n := g.n, h := false, c := daaHigh a g } }

/-- The four flags of a state as bits. -/
def State.flags (s : State) : FlagSet := { z := s.fZ, n := s.fN, h := s.fH, c := s.fC }

/-! ## 16-bit flag rules -/

/-- The flags of `ADD HL,rr` (R240): carries out of bits 11 and 15, `fZ` unchanged. -/
def addHlFlags (hl v : Word) (oldZ : Bool) : FlagSet :=
  { z := oldZ
    n := false
    h := decide (hl.toNat % 0x1000 + v.toNat % 0x1000 > 0x0FFF)
    c := decide (hl.toNat + v.toNat > 0xFFFF) }

/-- The flags of `LD HL,SP+e8` and `ADD SP,e8` (R175, R243): the unsigned carries of the low byte of `SP` and the raw byte. -/
def spDisplacementFlags (sp : Word) (e8 : Byte) : FlagSet :=
  { z := false
    n := false
    h := decide (sp.toNat % 16 + e8.toNat % 16 > 0xF)
    c := decide (sp.toNat % 256 + e8.toNat > 0xFF) }

/-! ## The rotate and shift functions of 44_rotate_shift_bit.md -/

/-- A result byte and the carry out. -/
structure RotResult where
  /-- the result `r` -/
  value : Byte
  /-- the carry out `c` -/
  carry : Bool
  deriving DecidableEq, Repr

/-- `rlc8(v)` (R254). -/
def rlc8 (v : Byte) : RotResult := { value := v <<< 1 ||| bitByte (v.getLsbD 7) 0, carry := v.getLsbD 7 }

/-- `rrc8(v)` (R255). -/
def rrc8 (v : Byte) : RotResult := { value := v >>> 1 ||| bitByte (v.getLsbD 0) 7, carry := v.getLsbD 0 }

/-- `rl8(v, cin)` (R256). -/
def rl8 (v : Byte) (cin : Bool) : RotResult := { value := v <<< 1 ||| bitByte cin 0, carry := v.getLsbD 7 }

/-- `rr8(v, cin)` (R257). -/
def rr8 (v : Byte) (cin : Bool) : RotResult := { value := v >>> 1 ||| bitByte cin 7, carry := v.getLsbD 0 }

/-- `sla8(v)` (R258). -/
def sla8 (v : Byte) : RotResult := { value := v <<< 1, carry := v.getLsbD 7 }

/-- `sra8(v)` (R259). -/
def sra8 (v : Byte) : RotResult := { value := v >>> 1 ||| (v &&& 0x80), carry := v.getLsbD 0 }

/-- `swap8(v)` (R260). -/
def swap8 (v : Byte) : RotResult := { value := v <<< 4 ||| v >>> 4, carry := false }

/-- `srl8(v)` (R261). -/
def srl8 (v : Byte) : RotResult := { value := v >>> 1, carry := v.getLsbD 0 }

/-- `rot[y]` applied to a value and the old carry (R99). -/
def rotate8 (op : RotOp) (v : Byte) (cin : Bool) : RotResult :=
  match op with
  | .rlc => rlc8 v
  | .rrc => rrc8 v
  | .rl => rl8 v cin
  | .rr => rr8 v cin
  | .sla => sla8 v
  | .sra => sra8 v
  | .swap => swap8 v
  | .srl => srl8 v

/-! ## Single bits -/

/-- `v & ~(1 << b) & 0xFF` (R280, R281). -/
def clearBit (b : Fin 8) (v : Byte) : Byte := v &&& ~~~ (bitByte true b.val)

/-- `v | (1 << b)` (R282, R283). -/
def raiseBit (b : Fin 8) (v : Byte) : Byte := v ||| bitByte true b.val

/-- The flags of `BIT b,x` (R278, R279): `fZ` the complement of the bit, `fC` unchanged. -/
def bitFlags (b : Fin 8) (v : Byte) (oldC : Bool) : FlagSet :=
  { z := !v.getLsbD b.val, n := false, h := true, c := oldC }

end Sys2Proof.Machine
end

