-- ==== Sys2Proof/Machine/Alu16.lean ====
section
/-! DEFINITION. 16-bit arithmetic (43_alu16.md R240 to R243). No instruction of this file touches memory. -/

namespace Sys2Proof.Machine

/-! ## Shared operations -/

/-- `HL <- HL + v` (R240): `fZ` is not touched. -/
def addToHl (v : Word) (s : State) : Result :=
  finish 1 ((s.setHl (s.hl + v)).setFlags (addHlFlags s.hl v s.fZ))

/-- `r16[p] <- r16[p] + delta` (R241, R242): no flag is written. -/
def adjustPair (p : Reg16) (delta : Word) (s : State) : Result := finish 1 (s.setPair p (s.pair p + delta))

/-- `SP <- SP + sext_16(e8)` with the low-byte carries as flags (R243). -/
def addToSp (e8 : Byte) (s : State) : Result :=
  finish 2 ((s.setSp (s.sp + sext16 e8)).setFlags (spDisplacementFlags s.sp e8))

/-! ## The instructions -/

/-- `INC BC` (R241). -/
def execIncBc (s : State) : Result := adjustPair .bc 1 s

/-- `ADD HL,BC` (R240). -/
def execAddHlBc (s : State) : Result := addToHl (s.pair .bc) s

/-- `DEC BC` (R242). -/
def execDecBc (s : State) : Result := adjustPair .bc (-1) s

/-- `INC DE` (R241). -/
def execIncDe (s : State) : Result := adjustPair .de 1 s

/-- `ADD HL,DE` (R240). -/
def execAddHlDe (s : State) : Result := addToHl (s.pair .de) s

/-- `DEC DE` (R242). -/
def execDecDe (s : State) : Result := adjustPair .de (-1) s

/-- `INC HL` (R241). -/
def execIncHl (s : State) : Result := adjustPair .hl 1 s

/-- `ADD HL,HL` (R240). -/
def execAddHlHl (s : State) : Result := addToHl (s.pair .hl) s

/-- `DEC HL` (R242). -/
def execDecHl (s : State) : Result := adjustPair .hl (-1) s

/-- `INC SP` (R241). -/
def execIncSp (s : State) : Result := adjustPair .sp 1 s

/-- `ADD HL,SP` (R240). -/
def execAddHlSp (s : State) : Result := addToHl (s.pair .sp) s

/-- `DEC SP` (R242). -/
def execDecSp (s : State) : Result := adjustPair .sp (-1) s

/-- `ADD SP,e8` (R243). -/
def execAddSpE8 (e8 : Byte) (s : State) : Result := addToSp e8 s

end Sys2Proof.Machine
end

