-- ==== Sys2Proof/Machine/Alu8.lean ====
section
/-! DEFINITION. The 8-bit arithmetic and logic instructions (42_alu8.md R198 to R231). -/

namespace Sys2Proof.Machine

/-! ## Shared operations -/

/-- Write `A` and all four flags. -/
def State.setResult (s : State) (r : AluResult) : State := (s.setReg .a r.value).setFlags r.flags

/-- `alu[y]` on `A` and an operand (R98, R198 to R221): CP writes the flags only (R197). -/
def State.aluResult (s : State) (op : AluOp) (x : Byte) : State :=
  match op with
  | .add => s.setResult (add8 s.a x)
  | .adc => s.setResult (adc8 s.a x s.fC)
  | .sub => s.setResult (sub8 s.a x)
  | .sbc => s.setResult (sbc8 s.a x s.fC)
  | .and => s.setResult (and8 s.a x)
  | .xor => s.setResult (xor8 s.a x)
  | .or => s.setResult (or8 s.a x)
  | .cp => s.setFlags (cp8 s.a x)

/-- An ALU instruction of `len` bytes (R198 to R221). -/
def aluOnA (op : AluOp) (x : Byte) (len : Word) (s : State) : Result := finish len (s.aluResult op x)

/-- INC and DEC of `r8[y]` (R224 to R227): read, compute from the value and the old carry, write, then the flags. -/
def stepOperand (f : Byte → Bool → AluResult) (o : Operand8) (s : State) : Result :=
  (s.setOperand o (f (s.operand o) s.fC).value).andThen fun t => finish 1 (t.setFlags (f (s.operand o) s.fC).flags)

/-- `DAA` (R228). -/
def decimalAdjust (s : State) : Result := finish 1 (s.setResult (daa8 s.a s.flags))

/-- `CPL` (R229): `fZ` and `fC` are not touched. -/
def complementA (s : State) : Result :=
  finish 1 ((s.setReg .a (s.a ^^^ 0xFF)).setFlags { z := s.fZ, n := true, h := true, c := s.fC })

/-- `SCF` and `CCF` (R230, R231): write `fC`, clear `fN` and `fH`, keep `fZ`. -/
def writeCarry (c : Bool) (s : State) : Result := finish 1 (s.setFlags { z := s.fZ, n := false, h := false, c := c })

/-! ## The instructions -/

/-- `INC B` (R224). -/
def execIncB (s : State) : Result := stepOperand inc8 (.reg .b) s

/-- `DEC B` (R226). -/
def execDecB (s : State) : Result := stepOperand dec8 (.reg .b) s

/-- `INC C` (R224). -/
def execIncC (s : State) : Result := stepOperand inc8 (.reg .c) s

/-- `DEC C` (R226). -/
def execDecC (s : State) : Result := stepOperand dec8 (.reg .c) s

/-- `INC D` (R224). -/
def execIncD (s : State) : Result := stepOperand inc8 (.reg .d) s

/-- `DEC D` (R226). -/
def execDecD (s : State) : Result := stepOperand dec8 (.reg .d) s

/-- `INC E` (R224). -/
def execIncE (s : State) : Result := stepOperand inc8 (.reg .e) s

/-- `DEC E` (R226). -/
def execDecE (s : State) : Result := stepOperand dec8 (.reg .e) s

/-- `INC H` (R224). -/
def execIncH (s : State) : Result := stepOperand inc8 (.reg .h) s

/-- `DEC H` (R226). -/
def execDecH (s : State) : Result := stepOperand dec8 (.reg .h) s

/-- `DAA` (R228). -/
def execDaa (s : State) : Result := decimalAdjust s

/-- `INC L` (R224). -/
def execIncL (s : State) : Result := stepOperand inc8 (.reg .l) s

/-- `DEC L` (R226). -/
def execDecL (s : State) : Result := stepOperand dec8 (.reg .l) s

/-- `CPL` (R229). -/
def execCpl (s : State) : Result := complementA s

/-- `INC (HL)` (R225). -/
def execIncAtHl (s : State) : Result := stepOperand inc8 .atHl s

/-- `DEC (HL)` (R227). -/
def execDecAtHl (s : State) : Result := stepOperand dec8 .atHl s

/-- `SCF` (R230). -/
def execScf (s : State) : Result := writeCarry true s

/-- `INC A` (R224). -/
def execIncA (s : State) : Result := stepOperand inc8 (.reg .a) s

/-- `DEC A` (R226). -/
def execDecA (s : State) : Result := stepOperand dec8 (.reg .a) s

/-- `CCF` (R231). -/
def execCcf (s : State) : Result := writeCarry (!s.fC) s

/-- `ADD A,B` (R198). -/
def execAddAB (s : State) : Result := aluOnA .add (s.operand (.reg .b)) 1 s

/-- `ADD A,C` (R198). -/
def execAddAC (s : State) : Result := aluOnA .add (s.operand (.reg .c)) 1 s

/-- `ADD A,D` (R198). -/
def execAddAD (s : State) : Result := aluOnA .add (s.operand (.reg .d)) 1 s

/-- `ADD A,E` (R198). -/
def execAddAE (s : State) : Result := aluOnA .add (s.operand (.reg .e)) 1 s

/-- `ADD A,H` (R198). -/
def execAddAH (s : State) : Result := aluOnA .add (s.operand (.reg .h)) 1 s

/-- `ADD A,L` (R198). -/
def execAddAL (s : State) : Result := aluOnA .add (s.operand (.reg .l)) 1 s

/-- `ADD A,(HL)` (R199). -/
def execAddAAtHl (s : State) : Result := aluOnA .add (s.operand .atHl) 1 s

/-- `ADD A,A` (R198). -/
def execAddAA (s : State) : Result := aluOnA .add (s.operand (.reg .a)) 1 s

/-- `ADC A,B` (R201). -/
def execAdcAB (s : State) : Result := aluOnA .adc (s.operand (.reg .b)) 1 s

/-- `ADC A,C` (R201). -/
def execAdcAC (s : State) : Result := aluOnA .adc (s.operand (.reg .c)) 1 s

/-- `ADC A,D` (R201). -/
def execAdcAD (s : State) : Result := aluOnA .adc (s.operand (.reg .d)) 1 s

/-- `ADC A,E` (R201). -/
def execAdcAE (s : State) : Result := aluOnA .adc (s.operand (.reg .e)) 1 s

/-- `ADC A,H` (R201). -/
def execAdcAH (s : State) : Result := aluOnA .adc (s.operand (.reg .h)) 1 s

/-- `ADC A,L` (R201). -/
def execAdcAL (s : State) : Result := aluOnA .adc (s.operand (.reg .l)) 1 s

/-- `ADC A,(HL)` (R202). -/
def execAdcAAtHl (s : State) : Result := aluOnA .adc (s.operand .atHl) 1 s

/-- `ADC A,A` (R201). -/
def execAdcAA (s : State) : Result := aluOnA .adc (s.operand (.reg .a)) 1 s

/-- `SUB B` (R204). -/
def execSubB (s : State) : Result := aluOnA .sub (s.operand (.reg .b)) 1 s

/-- `SUB C` (R204). -/
def execSubC (s : State) : Result := aluOnA .sub (s.operand (.reg .c)) 1 s

/-- `SUB D` (R204). -/
def execSubD (s : State) : Result := aluOnA .sub (s.operand (.reg .d)) 1 s

/-- `SUB E` (R204). -/
def execSubE (s : State) : Result := aluOnA .sub (s.operand (.reg .e)) 1 s

/-- `SUB H` (R204). -/
def execSubH (s : State) : Result := aluOnA .sub (s.operand (.reg .h)) 1 s

/-- `SUB L` (R204). -/
def execSubL (s : State) : Result := aluOnA .sub (s.operand (.reg .l)) 1 s

/-- `SUB (HL)` (R205). -/
def execSubAtHl (s : State) : Result := aluOnA .sub (s.operand .atHl) 1 s

/-- `SUB A` (R204). -/
def execSubA (s : State) : Result := aluOnA .sub (s.operand (.reg .a)) 1 s

/-- `SBC A,B` (R207). -/
def execSbcAB (s : State) : Result := aluOnA .sbc (s.operand (.reg .b)) 1 s

/-- `SBC A,C` (R207). -/
def execSbcAC (s : State) : Result := aluOnA .sbc (s.operand (.reg .c)) 1 s

/-- `SBC A,D` (R207). -/
def execSbcAD (s : State) : Result := aluOnA .sbc (s.operand (.reg .d)) 1 s

/-- `SBC A,E` (R207). -/
def execSbcAE (s : State) : Result := aluOnA .sbc (s.operand (.reg .e)) 1 s

/-- `SBC A,H` (R207). -/
def execSbcAH (s : State) : Result := aluOnA .sbc (s.operand (.reg .h)) 1 s

/-- `SBC A,L` (R207). -/
def execSbcAL (s : State) : Result := aluOnA .sbc (s.operand (.reg .l)) 1 s

/-- `SBC A,(HL)` (R208). -/
def execSbcAAtHl (s : State) : Result := aluOnA .sbc (s.operand .atHl) 1 s

/-- `SBC A,A` (R207). -/
def execSbcAA (s : State) : Result := aluOnA .sbc (s.operand (.reg .a)) 1 s

/-- `AND B` (R210). -/
def execAndB (s : State) : Result := aluOnA .and (s.operand (.reg .b)) 1 s

/-- `AND C` (R210). -/
def execAndC (s : State) : Result := aluOnA .and (s.operand (.reg .c)) 1 s

/-- `AND D` (R210). -/
def execAndD (s : State) : Result := aluOnA .and (s.operand (.reg .d)) 1 s

/-- `AND E` (R210). -/
def execAndE (s : State) : Result := aluOnA .and (s.operand (.reg .e)) 1 s

/-- `AND H` (R210). -/
def execAndH (s : State) : Result := aluOnA .and (s.operand (.reg .h)) 1 s

/-- `AND L` (R210). -/
def execAndL (s : State) : Result := aluOnA .and (s.operand (.reg .l)) 1 s

/-- `AND (HL)` (R211). -/
def execAndAtHl (s : State) : Result := aluOnA .and (s.operand .atHl) 1 s

/-- `AND A` (R210). -/
def execAndA (s : State) : Result := aluOnA .and (s.operand (.reg .a)) 1 s

/-- `XOR B` (R213). -/
def execXorB (s : State) : Result := aluOnA .xor (s.operand (.reg .b)) 1 s

/-- `XOR C` (R213). -/
def execXorC (s : State) : Result := aluOnA .xor (s.operand (.reg .c)) 1 s

/-- `XOR D` (R213). -/
def execXorD (s : State) : Result := aluOnA .xor (s.operand (.reg .d)) 1 s

/-- `XOR E` (R213). -/
def execXorE (s : State) : Result := aluOnA .xor (s.operand (.reg .e)) 1 s

/-- `XOR H` (R213). -/
def execXorH (s : State) : Result := aluOnA .xor (s.operand (.reg .h)) 1 s

/-- `XOR L` (R213). -/
def execXorL (s : State) : Result := aluOnA .xor (s.operand (.reg .l)) 1 s

/-- `XOR (HL)` (R214). -/
def execXorAtHl (s : State) : Result := aluOnA .xor (s.operand .atHl) 1 s

/-- `XOR A` (R213). -/
def execXorA (s : State) : Result := aluOnA .xor (s.operand (.reg .a)) 1 s

/-- `OR B` (R216). -/
def execOrB (s : State) : Result := aluOnA .or (s.operand (.reg .b)) 1 s

/-- `OR C` (R216). -/
def execOrC (s : State) : Result := aluOnA .or (s.operand (.reg .c)) 1 s

/-- `OR D` (R216). -/
def execOrD (s : State) : Result := aluOnA .or (s.operand (.reg .d)) 1 s

/-- `OR E` (R216). -/
def execOrE (s : State) : Result := aluOnA .or (s.operand (.reg .e)) 1 s

/-- `OR H` (R216). -/
def execOrH (s : State) : Result := aluOnA .or (s.operand (.reg .h)) 1 s

/-- `OR L` (R216). -/
def execOrL (s : State) : Result := aluOnA .or (s.operand (.reg .l)) 1 s

/-- `OR (HL)` (R217). -/
def execOrAtHl (s : State) : Result := aluOnA .or (s.operand .atHl) 1 s

/-- `OR A` (R216). -/
def execOrA (s : State) : Result := aluOnA .or (s.operand (.reg .a)) 1 s

/-- `CP B` (R219). -/
def execCpB (s : State) : Result := aluOnA .cp (s.operand (.reg .b)) 1 s

/-- `CP C` (R219). -/
def execCpC (s : State) : Result := aluOnA .cp (s.operand (.reg .c)) 1 s

/-- `CP D` (R219). -/
def execCpD (s : State) : Result := aluOnA .cp (s.operand (.reg .d)) 1 s

/-- `CP E` (R219). -/
def execCpE (s : State) : Result := aluOnA .cp (s.operand (.reg .e)) 1 s

/-- `CP H` (R219). -/
def execCpH (s : State) : Result := aluOnA .cp (s.operand (.reg .h)) 1 s

/-- `CP L` (R219). -/
def execCpL (s : State) : Result := aluOnA .cp (s.operand (.reg .l)) 1 s

/-- `CP (HL)` (R220). -/
def execCpAtHl (s : State) : Result := aluOnA .cp (s.operand .atHl) 1 s

/-- `CP A` (R219). -/
def execCpA (s : State) : Result := aluOnA .cp (s.operand (.reg .a)) 1 s

/-- `ADD A,n8` (R200). -/
def execAddAN8 (n8 : Byte) (s : State) : Result := aluOnA .add n8 2 s

/-- `ADC A,n8` (R203). -/
def execAdcAN8 (n8 : Byte) (s : State) : Result := aluOnA .adc n8 2 s

/-- `SUB n8` (R206). -/
def execSubN8 (n8 : Byte) (s : State) : Result := aluOnA .sub n8 2 s

/-- `SBC A,n8` (R209). -/
def execSbcAN8 (n8 : Byte) (s : State) : Result := aluOnA .sbc n8 2 s

/-- `AND n8` (R212). -/
def execAndN8 (n8 : Byte) (s : State) : Result := aluOnA .and n8 2 s

/-- `XOR n8` (R215). -/
def execXorN8 (n8 : Byte) (s : State) : Result := aluOnA .xor n8 2 s

/-- `OR n8` (R218). -/
def execOrN8 (n8 : Byte) (s : State) : Result := aluOnA .or n8 2 s

/-- `CP n8` (R221). -/
def execCpN8 (n8 : Byte) (s : State) : Result := aluOnA .cp n8 2 s

end Sys2Proof.Machine
end

