-- ==== Sys2Proof/Decode.lean ====
section
/-! DEFINITION. The decoder, written from the fields and quadrants of 30_encoding.md (R94 to R102), total on any bytes; and
AFTER it the encoder, written from the opcode grid (R101, R102 and the Encoding lines of the instruction rules). -/

namespace Sys2Proof

/-! ## The instruction of each operand form

Each function answers the table entry that a family of instructions has for given operands. -/

namespace Forms

/-- `LD r,r'` (R130). -/
def ldRegReg : Reg8 → Reg8 → Instr
  | .b, .b => .ldBB
  | .b, .c => .ldBC
  | .b, .d => .ldBD
  | .b, .e => .ldBE
  | .b, .h => .ldBH
  | .b, .l => .ldBL
  | .b, .a => .ldBA
  | .c, .b => .ldCB
  | .c, .c => .ldCC
  | .c, .d => .ldCD
  | .c, .e => .ldCE
  | .c, .h => .ldCH
  | .c, .l => .ldCL
  | .c, .a => .ldCA
  | .d, .b => .ldDB
  | .d, .c => .ldDC
  | .d, .d => .ldDD
  | .d, .e => .ldDE
  | .d, .h => .ldDH
  | .d, .l => .ldDL
  | .d, .a => .ldDA
  | .e, .b => .ldEB
  | .e, .c => .ldEC
  | .e, .d => .ldED
  | .e, .e => .ldEE
  | .e, .h => .ldEH
  | .e, .l => .ldEL
  | .e, .a => .ldEA
  | .h, .b => .ldHB
  | .h, .c => .ldHC
  | .h, .d => .ldHD
  | .h, .e => .ldHE
  | .h, .h => .ldHH
  | .h, .l => .ldHL
  | .h, .a => .ldHA
  | .l, .b => .ldLB
  | .l, .c => .ldLC
  | .l, .d => .ldLD
  | .l, .e => .ldLE
  | .l, .h => .ldLH
  | .l, .l => .ldLL
  | .l, .a => .ldLA
  | .a, .b => .ldAB
  | .a, .c => .ldAC
  | .a, .d => .ldAD
  | .a, .e => .ldAE
  | .a, .h => .ldAH
  | .a, .l => .ldAL
  | .a, .a => .ldAA

/-- `LD r,n8` (R131). -/
def ldRegImm : Reg8 → Byte → Instr
  | .b, n8 => .ldBN8 n8
  | .c, n8 => .ldCN8 n8
  | .d, n8 => .ldDN8 n8
  | .e, n8 => .ldEN8 n8
  | .h, n8 => .ldHN8 n8
  | .l, n8 => .ldLN8 n8
  | .a, n8 => .ldAN8 n8

/-- `LD r,(HL)` (R132). -/
def ldRegAtHl : Reg8 → Instr
  | .b => .ldBAtHl
  | .c => .ldCAtHl
  | .d => .ldDAtHl
  | .e => .ldEAtHl
  | .h => .ldHAtHl
  | .l => .ldLAtHl
  | .a => .ldAAtHl

/-- `LD (HL),r` (R133). -/
def ldAtHlReg : Reg8 → Instr
  | .b => .ldAtHlB
  | .c => .ldAtHlC
  | .d => .ldAtHlD
  | .e => .ldAtHlE
  | .h => .ldAtHlH
  | .l => .ldAtHlL
  | .a => .ldAtHlA

/-- `LD rr,n16` (R172). -/
def ldPairImm : Reg16 → Word → Instr
  | .bc, n16 => .ldBcN16 n16
  | .de, n16 => .ldDeN16 n16
  | .hl, n16 => .ldHlN16 n16
  | .sp, n16 => .ldSpN16 n16

/-- `PUSH rr` (R176). -/
def push : StackPair → Instr
  | .bc => .pushBc
  | .de => .pushDe
  | .hl => .pushHl
  | .af => .pushAf

/-- `POP rr` and `POP AF` (R177, R178). -/
def pop : StackPair → Instr
  | .bc => .popBc
  | .de => .popDe
  | .hl => .popHl
  | .af => .popAf

/-- `alu[y] A,r8[z]` (R98, R198 to R220). -/
def alu : AluOp → Operand8 → Instr
  | .add, .reg .b => .addAB
  | .add, .reg .c => .addAC
  | .add, .reg .d => .addAD
  | .add, .reg .e => .addAE
  | .add, .reg .h => .addAH
  | .add, .reg .l => .addAL
  | .add, .atHl => .addAAtHl
  | .add, .reg .a => .addAA
  | .adc, .reg .b => .adcAB
  | .adc, .reg .c => .adcAC
  | .adc, .reg .d => .adcAD
  | .adc, .reg .e => .adcAE
  | .adc, .reg .h => .adcAH
  | .adc, .reg .l => .adcAL
  | .adc, .atHl => .adcAAtHl
  | .adc, .reg .a => .adcAA
  | .sub, .reg .b => .subB
  | .sub, .reg .c => .subC
  | .sub, .reg .d => .subD
  | .sub, .reg .e => .subE
  | .sub, .reg .h => .subH
  | .sub, .reg .l => .subL
  | .sub, .atHl => .subAtHl
  | .sub, .reg .a => .subA
  | .sbc, .reg .b => .sbcAB
  | .sbc, .reg .c => .sbcAC
  | .sbc, .reg .d => .sbcAD
  | .sbc, .reg .e => .sbcAE
  | .sbc, .reg .h => .sbcAH
  | .sbc, .reg .l => .sbcAL
  | .sbc, .atHl => .sbcAAtHl
  | .sbc, .reg .a => .sbcAA
  | .and, .reg .b => .andB
  | .and, .reg .c => .andC
  | .and, .reg .d => .andD
  | .and, .reg .e => .andE
  | .and, .reg .h => .andH
  | .and, .reg .l => .andL
  | .and, .atHl => .andAtHl
  | .and, .reg .a => .andA
  | .xor, .reg .b => .xorB
  | .xor, .reg .c => .xorC
  | .xor, .reg .d => .xorD
  | .xor, .reg .e => .xorE
  | .xor, .reg .h => .xorH
  | .xor, .reg .l => .xorL
  | .xor, .atHl => .xorAtHl
  | .xor, .reg .a => .xorA
  | .or, .reg .b => .orB
  | .or, .reg .c => .orC
  | .or, .reg .d => .orD
  | .or, .reg .e => .orE
  | .or, .reg .h => .orH
  | .or, .reg .l => .orL
  | .or, .atHl => .orAtHl
  | .or, .reg .a => .orA
  | .cp, .reg .b => .cpB
  | .cp, .reg .c => .cpC
  | .cp, .reg .d => .cpD
  | .cp, .reg .e => .cpE
  | .cp, .reg .h => .cpH
  | .cp, .reg .l => .cpL
  | .cp, .atHl => .cpAtHl
  | .cp, .reg .a => .cpA

/-- `alu[y] A,n8` (R98, R200 to R221). -/
def aluImm : AluOp → Byte → Instr
  | .add, n8 => .addAN8 n8
  | .adc, n8 => .adcAN8 n8
  | .sub, n8 => .subN8 n8
  | .sbc, n8 => .sbcAN8 n8
  | .and, n8 => .andN8 n8
  | .xor, n8 => .xorN8 n8
  | .or, n8 => .orN8 n8
  | .cp, n8 => .cpN8 n8

/-- `INC r8[y]` (R224, R225). -/
def inc : Operand8 → Instr
  | .reg .b => .incB
  | .reg .c => .incC
  | .reg .d => .incD
  | .reg .e => .incE
  | .reg .h => .incH
  | .reg .l => .incL
  | .atHl => .incAtHl
  | .reg .a => .incA

/-- `DEC r8[y]` (R226, R227). -/
def dec : Operand8 → Instr
  | .reg .b => .decB
  | .reg .c => .decC
  | .reg .d => .decD
  | .reg .e => .decE
  | .reg .h => .decH
  | .reg .l => .decL
  | .atHl => .decAtHl
  | .reg .a => .decA

/-- `ADD HL,rr` (R240). -/
def addHl : Reg16 → Instr
  | .bc => .addHlBc
  | .de => .addHlDe
  | .hl => .addHlHl
  | .sp => .addHlSp

/-- `INC rr` (R241). -/
def incPair : Reg16 → Instr
  | .bc => .incBc
  | .de => .incDe
  | .hl => .incHl
  | .sp => .incSp

/-- `DEC rr` (R242). -/
def decPair : Reg16 → Instr
  | .bc => .decBc
  | .de => .decDe
  | .hl => .decHl
  | .sp => .decSp

/-- `rot[y] r8[z]` (R99, R262 to R277). -/
def rot : RotOp → Operand8 → Instr
  | .rlc, .reg .b => .rlcB
  | .rlc, .reg .c => .rlcC
  | .rlc, .reg .d => .rlcD
  | .rlc, .reg .e => .rlcE
  | .rlc, .reg .h => .rlcH
  | .rlc, .reg .l => .rlcL
  | .rlc, .atHl => .rlcAtHl
  | .rlc, .reg .a => .rlcA
  | .rrc, .reg .b => .rrcB
  | .rrc, .reg .c => .rrcC
  | .rrc, .reg .d => .rrcD
  | .rrc, .reg .e => .rrcE
  | .rrc, .reg .h => .rrcH
  | .rrc, .reg .l => .rrcL
  | .rrc, .atHl => .rrcAtHl
  | .rrc, .reg .a => .rrcA
  | .rl, .reg .b => .rlB
  | .rl, .reg .c => .rlC
  | .rl, .reg .d => .rlD
  | .rl, .reg .e => .rlE
  | .rl, .reg .h => .rlH
  | .rl, .reg .l => .rlL
  | .rl, .atHl => .rlAtHl
  | .rl, .reg .a => .rlA
  | .rr, .reg .b => .rrB
  | .rr, .reg .c => .rrC
  | .rr, .reg .d => .rrD
  | .rr, .reg .e => .rrE
  | .rr, .reg .h => .rrH
  | .rr, .reg .l => .rrL
  | .rr, .atHl => .rrAtHl
  | .rr, .reg .a => .rrA
  | .sla, .reg .b => .slaB
  | .sla, .reg .c => .slaC
  | .sla, .reg .d => .slaD
  | .sla, .reg .e => .slaE
  | .sla, .reg .h => .slaH
  | .sla, .reg .l => .slaL
  | .sla, .atHl => .slaAtHl
  | .sla, .reg .a => .slaA
  | .sra, .reg .b => .sraB
  | .sra, .reg .c => .sraC
  | .sra, .reg .d => .sraD
  | .sra, .reg .e => .sraE
  | .sra, .reg .h => .sraH
  | .sra, .reg .l => .sraL
  | .sra, .atHl => .sraAtHl
  | .sra, .reg .a => .sraA
  | .swap, .reg .b => .swapB
  | .swap, .reg .c => .swapC
  | .swap, .reg .d => .swapD
  | .swap, .reg .e => .swapE
  | .swap, .reg .h => .swapH
  | .swap, .reg .l => .swapL
  | .swap, .atHl => .swapAtHl
  | .swap, .reg .a => .swapA
  | .srl, .reg .b => .srlB
  | .srl, .reg .c => .srlC
  | .srl, .reg .d => .srlD
  | .srl, .reg .e => .srlE
  | .srl, .reg .h => .srlH
  | .srl, .reg .l => .srlL
  | .srl, .atHl => .srlAtHl
  | .srl, .reg .a => .srlA

/-- `BIT b,r8[z]` (R278, R279). -/
def bit : Fin 8 → Operand8 → Instr
  | 0, .reg .b => .bit0B
  | 0, .reg .c => .bit0C
  | 0, .reg .d => .bit0D
  | 0, .reg .e => .bit0E
  | 0, .reg .h => .bit0H
  | 0, .reg .l => .bit0L
  | 0, .atHl => .bit0AtHl
  | 0, .reg .a => .bit0A
  | 1, .reg .b => .bit1B
  | 1, .reg .c => .bit1C
  | 1, .reg .d => .bit1D
  | 1, .reg .e => .bit1E
  | 1, .reg .h => .bit1H
  | 1, .reg .l => .bit1L
  | 1, .atHl => .bit1AtHl
  | 1, .reg .a => .bit1A
  | 2, .reg .b => .bit2B
  | 2, .reg .c => .bit2C
  | 2, .reg .d => .bit2D
  | 2, .reg .e => .bit2E
  | 2, .reg .h => .bit2H
  | 2, .reg .l => .bit2L
  | 2, .atHl => .bit2AtHl
  | 2, .reg .a => .bit2A
  | 3, .reg .b => .bit3B
  | 3, .reg .c => .bit3C
  | 3, .reg .d => .bit3D
  | 3, .reg .e => .bit3E
  | 3, .reg .h => .bit3H
  | 3, .reg .l => .bit3L
  | 3, .atHl => .bit3AtHl
  | 3, .reg .a => .bit3A
  | 4, .reg .b => .bit4B
  | 4, .reg .c => .bit4C
  | 4, .reg .d => .bit4D
  | 4, .reg .e => .bit4E
  | 4, .reg .h => .bit4H
  | 4, .reg .l => .bit4L
  | 4, .atHl => .bit4AtHl
  | 4, .reg .a => .bit4A
  | 5, .reg .b => .bit5B
  | 5, .reg .c => .bit5C
  | 5, .reg .d => .bit5D
  | 5, .reg .e => .bit5E
  | 5, .reg .h => .bit5H
  | 5, .reg .l => .bit5L
  | 5, .atHl => .bit5AtHl
  | 5, .reg .a => .bit5A
  | 6, .reg .b => .bit6B
  | 6, .reg .c => .bit6C
  | 6, .reg .d => .bit6D
  | 6, .reg .e => .bit6E
  | 6, .reg .h => .bit6H
  | 6, .reg .l => .bit6L
  | 6, .atHl => .bit6AtHl
  | 6, .reg .a => .bit6A
  | 7, .reg .b => .bit7B
  | 7, .reg .c => .bit7C
  | 7, .reg .d => .bit7D
  | 7, .reg .e => .bit7E
  | 7, .reg .h => .bit7H
  | 7, .reg .l => .bit7L
  | 7, .atHl => .bit7AtHl
  | 7, .reg .a => .bit7A

/-- `RES b,r8[z]` (R280, R281). -/
def res : Fin 8 → Operand8 → Instr
  | 0, .reg .b => .res0B
  | 0, .reg .c => .res0C
  | 0, .reg .d => .res0D
  | 0, .reg .e => .res0E
  | 0, .reg .h => .res0H
  | 0, .reg .l => .res0L
  | 0, .atHl => .res0AtHl
  | 0, .reg .a => .res0A
  | 1, .reg .b => .res1B
  | 1, .reg .c => .res1C
  | 1, .reg .d => .res1D
  | 1, .reg .e => .res1E
  | 1, .reg .h => .res1H
  | 1, .reg .l => .res1L
  | 1, .atHl => .res1AtHl
  | 1, .reg .a => .res1A
  | 2, .reg .b => .res2B
  | 2, .reg .c => .res2C
  | 2, .reg .d => .res2D
  | 2, .reg .e => .res2E
  | 2, .reg .h => .res2H
  | 2, .reg .l => .res2L
  | 2, .atHl => .res2AtHl
  | 2, .reg .a => .res2A
  | 3, .reg .b => .res3B
  | 3, .reg .c => .res3C
  | 3, .reg .d => .res3D
  | 3, .reg .e => .res3E
  | 3, .reg .h => .res3H
  | 3, .reg .l => .res3L
  | 3, .atHl => .res3AtHl
  | 3, .reg .a => .res3A
  | 4, .reg .b => .res4B
  | 4, .reg .c => .res4C
  | 4, .reg .d => .res4D
  | 4, .reg .e => .res4E
  | 4, .reg .h => .res4H
  | 4, .reg .l => .res4L
  | 4, .atHl => .res4AtHl
  | 4, .reg .a => .res4A
  | 5, .reg .b => .res5B
  | 5, .reg .c => .res5C
  | 5, .reg .d => .res5D
  | 5, .reg .e => .res5E
  | 5, .reg .h => .res5H
  | 5, .reg .l => .res5L
  | 5, .atHl => .res5AtHl
  | 5, .reg .a => .res5A
  | 6, .reg .b => .res6B
  | 6, .reg .c => .res6C
  | 6, .reg .d => .res6D
  | 6, .reg .e => .res6E
  | 6, .reg .h => .res6H
  | 6, .reg .l => .res6L
  | 6, .atHl => .res6AtHl
  | 6, .reg .a => .res6A
  | 7, .reg .b => .res7B
  | 7, .reg .c => .res7C
  | 7, .reg .d => .res7D
  | 7, .reg .e => .res7E
  | 7, .reg .h => .res7H
  | 7, .reg .l => .res7L
  | 7, .atHl => .res7AtHl
  | 7, .reg .a => .res7A

/-- `SET b,r8[z]` (R282, R283). -/
def set : Fin 8 → Operand8 → Instr
  | 0, .reg .b => .set0B
  | 0, .reg .c => .set0C
  | 0, .reg .d => .set0D
  | 0, .reg .e => .set0E
  | 0, .reg .h => .set0H
  | 0, .reg .l => .set0L
  | 0, .atHl => .set0AtHl
  | 0, .reg .a => .set0A
  | 1, .reg .b => .set1B
  | 1, .reg .c => .set1C
  | 1, .reg .d => .set1D
  | 1, .reg .e => .set1E
  | 1, .reg .h => .set1H
  | 1, .reg .l => .set1L
  | 1, .atHl => .set1AtHl
  | 1, .reg .a => .set1A
  | 2, .reg .b => .set2B
  | 2, .reg .c => .set2C
  | 2, .reg .d => .set2D
  | 2, .reg .e => .set2E
  | 2, .reg .h => .set2H
  | 2, .reg .l => .set2L
  | 2, .atHl => .set2AtHl
  | 2, .reg .a => .set2A
  | 3, .reg .b => .set3B
  | 3, .reg .c => .set3C
  | 3, .reg .d => .set3D
  | 3, .reg .e => .set3E
  | 3, .reg .h => .set3H
  | 3, .reg .l => .set3L
  | 3, .atHl => .set3AtHl
  | 3, .reg .a => .set3A
  | 4, .reg .b => .set4B
  | 4, .reg .c => .set4C
  | 4, .reg .d => .set4D
  | 4, .reg .e => .set4E
  | 4, .reg .h => .set4H
  | 4, .reg .l => .set4L
  | 4, .atHl => .set4AtHl
  | 4, .reg .a => .set4A
  | 5, .reg .b => .set5B
  | 5, .reg .c => .set5C
  | 5, .reg .d => .set5D
  | 5, .reg .e => .set5E
  | 5, .reg .h => .set5H
  | 5, .reg .l => .set5L
  | 5, .atHl => .set5AtHl
  | 5, .reg .a => .set5A
  | 6, .reg .b => .set6B
  | 6, .reg .c => .set6C
  | 6, .reg .d => .set6D
  | 6, .reg .e => .set6E
  | 6, .reg .h => .set6H
  | 6, .reg .l => .set6L
  | 6, .atHl => .set6AtHl
  | 6, .reg .a => .set6A
  | 7, .reg .b => .set7B
  | 7, .reg .c => .set7C
  | 7, .reg .d => .set7D
  | 7, .reg .e => .set7E
  | 7, .reg .h => .set7H
  | 7, .reg .l => .set7L
  | 7, .atHl => .set7AtHl
  | 7, .reg .a => .set7A

/-- `JP cc,a16` (R301). -/
def jp : Cond → Word → Instr
  | .nz, a16 => .jpNzA16 a16
  | .z, a16 => .jpZA16 a16
  | .nc, a16 => .jpNcA16 a16
  | .c, a16 => .jpCA16 a16

/-- `JR cc,e8` (R304). -/
def jr : Cond → Byte → Instr
  | .nz, e8 => .jrNzE8 e8
  | .z, e8 => .jrZE8 e8
  | .nc, e8 => .jrNcE8 e8
  | .c, e8 => .jrCE8 e8

/-- `CALL cc,a16` (R306). -/
def call : Cond → Word → Instr
  | .nz, a16 => .callNzA16 a16
  | .z, a16 => .callZA16 a16
  | .nc, a16 => .callNcA16 a16
  | .c, a16 => .callCA16 a16

/-- `RET cc` (R309). -/
def ret : Cond → Instr
  | .nz => .retNz
  | .z => .retZ
  | .nc => .retNc
  | .c => .retC

/-- `RST t` with `t = 8 * y` (R311). -/
def rst : Fin 8 → Instr
  | 0 => .rst00
  | 1 => .rst08
  | 2 => .rst10
  | 3 => .rst18
  | 4 => .rst20
  | 5 => .rst28
  | 6 => .rst30
  | 7 => .rst38

/-- The eleven reserved bytes in ascending order (R103, R326). -/
def reserved : Fin 11 → Instr
  | 0 => .illegalD3
  | 1 => .illegalDB
  | 2 => .illegalDD
  | 3 => .illegalE3
  | 4 => .illegalE4
  | 5 => .illegalEB
  | 6 => .illegalEC
  | 7 => .illegalED
  | 8 => .illegalF4
  | 9 => .illegalFC
  | 10 => .illegalFD

end Forms

/-! ## Fields and index tables -/

/-- Field `x = op[7:6]` (R94). -/
def opX (op : Byte) : Fin 4 := (op.extractLsb' 6 2).toFin

/-- Field `y = op[5:3]` (R94). -/
def opY (op : Byte) : Fin 8 := (op.extractLsb' 3 3).toFin

/-- Field `z = op[2:0]` (R94). -/
def opZ (op : Byte) : Fin 8 := (op.extractLsb' 0 3).toFin

/-- `r8[i]` (R95). -/
def r8Table : Fin 8 → Operand8
  | 0 => .reg .b
  | 1 => .reg .c
  | 2 => .reg .d
  | 3 => .reg .e
  | 4 => .reg .h
  | 5 => .reg .l
  | 6 => .atHl
  | 7 => .reg .a

/-- `r16[p]` with `p = y >> 1` (R94, R96). -/
def r16Table : Fin 8 → Reg16
  | 0 | 1 => .bc
  | 2 | 3 => .de
  | 4 | 5 => .hl
  | 6 | 7 => .sp

/-- `r16stk[p]` with `p = y >> 1` (R94, R96). -/
def stackTable : Fin 8 → StackPair
  | 0 | 1 => .bc
  | 2 | 3 => .de
  | 4 | 5 => .hl
  | 6 | 7 => .af

/-- `cc[y]` for `y` 0 to 3 and `cc[y-4]` for `y` 4 to 7 (R97, R301, R304). -/
def condTable : Fin 8 → Cond
  | 0 | 4 => .nz
  | 1 | 5 => .z
  | 2 | 6 => .nc
  | 3 | 7 => .c

/-- `alu[y]` (R98). -/
def aluTable : Fin 8 → AluOp
  | 0 => .add
  | 1 => .adc
  | 2 => .sub
  | 3 => .sbc
  | 4 => .and
  | 5 => .xor
  | 6 => .or
  | 7 => .cp

/-- `rot[y]` (R99). -/
def rotTable : Fin 8 → RotOp
  | 0 => .rlc
  | 1 => .rrc
  | 2 => .rl
  | 3 => .rr
  | 4 => .sla
  | 5 => .sra
  | 6 => .swap
  | 7 => .srl

/-! ## Descriptors -/

/-- A descriptor of the base table (R91) with the operand kind that step 3 of R90 needs: none, one byte, or one word (R93);
`padded` is STOP's format `F2P`, whose second byte is not read (R93, R322). -/
inductive Descriptor
  | plain (i : Instr)
  | padded (i : Instr)
  | oneByte (f : Byte → Instr)
  | oneWord (f : Word → Instr)

/-- Quadrant `x = 0` (R101). -/
def quadrant0 (y z : Fin 8) : Descriptor :=
  match z with
  | 0 =>
    match y with
    | 0 => .plain .nop
    | 1 => .oneWord .ldAtA16Sp
    | 2 => .padded .stop
    | 3 => .oneByte .jrE8
    | 4 | 5 | 6 | 7 => .oneByte (Forms.jr (condTable y))
  | 1 =>
    match y with
    | 0 | 2 | 4 | 6 => .oneWord (Forms.ldPairImm (r16Table y))
    | 1 | 3 | 5 | 7 => .plain (Forms.addHl (r16Table y))
  | 2 =>
    match y with
    | 0 => .plain .ldAtBcA
    | 1 => .plain .ldAAtBc
    | 2 => .plain .ldAtDeA
    | 3 => .plain .ldAAtDe
    | 4 => .plain .ldiAtHlA
    | 5 => .plain .ldiAAtHl
    | 6 => .plain .lddAtHlA
    | 7 => .plain .lddAAtHl
  | 3 =>
    match y with
    | 0 | 2 | 4 | 6 => .plain (Forms.incPair (r16Table y))
    | 1 | 3 | 5 | 7 => .plain (Forms.decPair (r16Table y))
  | 4 => .plain (Forms.inc (r8Table y))
  | 5 => .plain (Forms.dec (r8Table y))
  | 6 =>
    match r8Table y with
    | .reg r => .oneByte (Forms.ldRegImm r)
    | .atHl => .oneByte .ldAtHlN8
  | 7 =>
    match y with
    | 0 => .plain .rlca
    | 1 => .plain .rrca
    | 2 => .plain .rla
    | 3 => .plain .rra
    | 4 => .plain .daa
    | 5 => .plain .cpl
    | 6 => .plain .scf
    | 7 => .plain .ccf

/-- Quadrant `x = 1` (R101): `LD r8[y],r8[z]`, but 0x76 is `HALT`. -/
def quadrant1 (y z : Fin 8) : Descriptor :=
  match r8Table y, r8Table z with
  | .reg r, .reg r' => .plain (Forms.ldRegReg r r')
  | .reg r, .atHl => .plain (Forms.ldRegAtHl r)
  | .atHl, .reg r => .plain (Forms.ldAtHlReg r)
  | .atHl, .atHl => .plain .halt

/-- Quadrant `x = 2` (R101): `alu[y] A,r8[z]`. -/
def quadrant2 (y z : Fin 8) : Descriptor := .plain (Forms.alu (aluTable y) (r8Table z))

/-- Quadrant `x = 3` (R101). -/
def quadrant3 (y z : Fin 8) : Descriptor :=
  match z with
  | 0 =>
    match y with
    | 0 | 1 | 2 | 3 => .plain (Forms.ret (condTable y))
    | 4 => .oneByte .ldhAtA8A
    | 5 => .oneByte .addSpE8
    | 6 => .oneByte .ldhAAtA8
    | 7 => .oneByte .ldHlSpE8
  | 1 =>
    match y with
    | 0 | 2 | 4 | 6 => .plain (Forms.pop (stackTable y))
    | 1 => .plain .ret
    | 3 => .plain .reti
    | 5 => .plain .jpHl
    | 7 => .plain .ldSpHl
  | 2 =>
    match y with
    | 0 | 1 | 2 | 3 => .oneWord (Forms.jp (condTable y))
    | 4 => .plain .ldhAtCA
    | 5 => .oneWord .ldAtA16A
    | 6 => .plain .ldhAAtC
    | 7 => .oneWord .ldAAtA16
  | 3 =>
    match y with
    | 0 => .oneWord .jpA16
    | 1 => .plain .prefixCb
    | 2 => .plain .illegalD3
    | 3 => .plain .illegalDB
    | 4 => .plain .illegalE3
    | 5 => .plain .illegalEB
    | 6 => .plain .di
    | 7 => .plain .ei
  | 4 =>
    match y with
    | 0 | 1 | 2 | 3 => .oneWord (Forms.call (condTable y))
    | 4 => .plain .illegalE4
    | 5 => .plain .illegalEC
    | 6 => .plain .illegalF4
    | 7 => .plain .illegalFC
  | 5 =>
    match y with
    | 0 | 2 | 4 | 6 => .plain (Forms.push (stackTable y))
    | 1 => .oneWord .callA16
    | 3 => .plain .illegalDD
    | 5 => .plain .illegalED
    | 7 => .plain .illegalFD
  | 6 => .oneByte (Forms.aluImm (aluTable y))
  | 7 => .plain (Forms.rst y)

/-- `BASE[op]` (R91, R101). `BASE[0xCB]` is the entry `PREFIX CB`, which the decoder never answers (R92). -/
def baseDescriptor (op : Byte) : Descriptor :=
  match opX op with
  | 0 => quadrant0 (opY op) (opZ op)
  | 1 => quadrant1 (opY op) (opZ op)
  | 2 => quadrant2 (opY op) (opZ op)
  | 3 => quadrant3 (opY op) (opZ op)

/-- The instruction of `EXT[op2]` (R91, R102). -/
def extendedInstr (op2 : Byte) : Instr :=
  match opX op2 with
  | 0 => Forms.rot (rotTable (opY op2)) (r8Table (opZ op2))
  | 1 => Forms.bit (opY op2) (r8Table (opZ op2))
  | 2 => Forms.res (opY op2) (r8Table (opZ op2))
  | 3 => Forms.set (opY op2) (r8Table (opZ op2))

/-! ## The decoder -/

/-- Why a list of bytes does not hold a whole instruction. Every byte value decodes (R109), so the only reason is that the list
ends too early. -/
inductive DecodeError
  /-- no opcode byte -/
  | noOpcode
  /-- 0xCB with no byte after it -/
  | noExtendedOpcode
  /-- an inline operand is missing or only half there -/
  | noOperand
  deriving DecidableEq, Repr

/-- A decoded instruction and the bytes after it, or the reason there is none. -/
inductive Decoded
  | instr (i : Instr) (rest : List Byte)
  | rejected (why : DecodeError)
  deriving DecidableEq, Repr

/-- Read the inline operand of a base-table entry (R90 step 3, R100): a word has its low byte first (R62). STOP's padding byte is
skipped if it is there (R93, R322). -/
def decodeOperand : Descriptor → List Byte → Decoded
  | .plain i, rest => .instr i rest
  | .padded i, rest => .instr i (rest.drop 1)
  | .oneByte f, n :: rest => .instr (f n) rest
  | .oneByte _, [] => .rejected .noOperand
  | .oneWord f, lo :: hi :: rest => .instr (f (wordOf hi lo)) rest
  | .oneWord _, [_] => .rejected .noOperand
  | .oneWord _, [] => .rejected .noOperand

/-- The decoder (R90 steps 1 to 3, R92): the first byte selects the base table, and after 0xCB the next byte selects the second
table, "never the base table". -/
def decode : List Byte → Decoded
  | [] => .rejected .noOpcode
  | op :: rest =>
    if op = Config.extendedByte then
      match rest with
      | [] => .rejected .noExtendedOpcode
      | op2 :: rest' => .instr (extendedInstr op2) rest'
    else decodeOperand (baseDescriptor op) rest

/-! ## The encoder -/

/-- The bytes of an instruction, byte 0 first (R93, R100, R101, R102). STOP's padding byte is written 0x00, its conventional
value (R322). `PREFIX CB` is the one byte 0xCB, no whole instruction (R92). -/
def encode : Instr → List Byte
  | .nop => [0x00]
  | .ldBcN16 n16 => [0x01, loByte n16, hiByte n16]
  | .ldAtBcA => [0x02]
  | .incBc => [0x03]
  | .incB => [0x04]
  | .decB => [0x05]
  | .ldBN8 n8 => [0x06, n8]
  | .rlca => [0x07]
  | .ldAtA16Sp a16 => [0x08, loByte a16, hiByte a16]
  | .addHlBc => [0x09]
  | .ldAAtBc => [0x0A]
  | .decBc => [0x0B]
  | .incC => [0x0C]
  | .decC => [0x0D]
  | .ldCN8 n8 => [0x0E, n8]
  | .rrca => [0x0F]
  | .stop => [0x10, 0x00]
  | .ldDeN16 n16 => [0x11, loByte n16, hiByte n16]
  | .ldAtDeA => [0x12]
  | .incDe => [0x13]
  | .incD => [0x14]
  | .decD => [0x15]
  | .ldDN8 n8 => [0x16, n8]
  | .rla => [0x17]
  | .jrE8 e8 => [0x18, e8]
  | .addHlDe => [0x19]
  | .ldAAtDe => [0x1A]
  | .decDe => [0x1B]
  | .incE => [0x1C]
  | .decE => [0x1D]
  | .ldEN8 n8 => [0x1E, n8]
  | .rra => [0x1F]
  | .jrNzE8 e8 => [0x20, e8]
  | .ldHlN16 n16 => [0x21, loByte n16, hiByte n16]
  | .ldiAtHlA => [0x22]
  | .incHl => [0x23]
  | .incH => [0x24]
  | .decH => [0x25]
  | .ldHN8 n8 => [0x26, n8]
  | .daa => [0x27]
  | .jrZE8 e8 => [0x28, e8]
  | .addHlHl => [0x29]
  | .ldiAAtHl => [0x2A]
  | .decHl => [0x2B]
  | .incL => [0x2C]
  | .decL => [0x2D]
  | .ldLN8 n8 => [0x2E, n8]
  | .cpl => [0x2F]
  | .jrNcE8 e8 => [0x30, e8]
  | .ldSpN16 n16 => [0x31, loByte n16, hiByte n16]
  | .lddAtHlA => [0x32]
  | .incSp => [0x33]
  | .incAtHl => [0x34]
  | .decAtHl => [0x35]
  | .ldAtHlN8 n8 => [0x36, n8]
  | .scf => [0x37]
  | .jrCE8 e8 => [0x38, e8]
  | .addHlSp => [0x39]
  | .lddAAtHl => [0x3A]
  | .decSp => [0x3B]
  | .incA => [0x3C]
  | .decA => [0x3D]
  | .ldAN8 n8 => [0x3E, n8]
  | .ccf => [0x3F]
  | .ldBB => [0x40]
  | .ldBC => [0x41]
  | .ldBD => [0x42]
  | .ldBE => [0x43]
  | .ldBH => [0x44]
  | .ldBL => [0x45]
  | .ldBAtHl => [0x46]
  | .ldBA => [0x47]
  | .ldCB => [0x48]
  | .ldCC => [0x49]
  | .ldCD => [0x4A]
  | .ldCE => [0x4B]
  | .ldCH => [0x4C]
  | .ldCL => [0x4D]
  | .ldCAtHl => [0x4E]
  | .ldCA => [0x4F]
  | .ldDB => [0x50]
  | .ldDC => [0x51]
  | .ldDD => [0x52]
  | .ldDE => [0x53]
  | .ldDH => [0x54]
  | .ldDL => [0x55]
  | .ldDAtHl => [0x56]
  | .ldDA => [0x57]
  | .ldEB => [0x58]
  | .ldEC => [0x59]
  | .ldED => [0x5A]
  | .ldEE => [0x5B]
  | .ldEH => [0x5C]
  | .ldEL => [0x5D]
  | .ldEAtHl => [0x5E]
  | .ldEA => [0x5F]
  | .ldHB => [0x60]
  | .ldHC => [0x61]
  | .ldHD => [0x62]
  | .ldHE => [0x63]
  | .ldHH => [0x64]
  | .ldHL => [0x65]
  | .ldHAtHl => [0x66]
  | .ldHA => [0x67]
  | .ldLB => [0x68]
  | .ldLC => [0x69]
  | .ldLD => [0x6A]
  | .ldLE => [0x6B]
  | .ldLH => [0x6C]
  | .ldLL => [0x6D]
  | .ldLAtHl => [0x6E]
  | .ldLA => [0x6F]
  | .ldAtHlB => [0x70]
  | .ldAtHlC => [0x71]
  | .ldAtHlD => [0x72]
  | .ldAtHlE => [0x73]
  | .ldAtHlH => [0x74]
  | .ldAtHlL => [0x75]
  | .halt => [0x76]
  | .ldAtHlA => [0x77]
  | .ldAB => [0x78]
  | .ldAC => [0x79]
  | .ldAD => [0x7A]
  | .ldAE => [0x7B]
  | .ldAH => [0x7C]
  | .ldAL => [0x7D]
  | .ldAAtHl => [0x7E]
  | .ldAA => [0x7F]
  | .addAB => [0x80]
  | .addAC => [0x81]
  | .addAD => [0x82]
  | .addAE => [0x83]
  | .addAH => [0x84]
  | .addAL => [0x85]
  | .addAAtHl => [0x86]
  | .addAA => [0x87]
  | .adcAB => [0x88]
  | .adcAC => [0x89]
  | .adcAD => [0x8A]
  | .adcAE => [0x8B]
  | .adcAH => [0x8C]
  | .adcAL => [0x8D]
  | .adcAAtHl => [0x8E]
  | .adcAA => [0x8F]
  | .subB => [0x90]
  | .subC => [0x91]
  | .subD => [0x92]
  | .subE => [0x93]
  | .subH => [0x94]
  | .subL => [0x95]
  | .subAtHl => [0x96]
  | .subA => [0x97]
  | .sbcAB => [0x98]
  | .sbcAC => [0x99]
  | .sbcAD => [0x9A]
  | .sbcAE => [0x9B]
  | .sbcAH => [0x9C]
  | .sbcAL => [0x9D]
  | .sbcAAtHl => [0x9E]
  | .sbcAA => [0x9F]
  | .andB => [0xA0]
  | .andC => [0xA1]
  | .andD => [0xA2]
  | .andE => [0xA3]
  | .andH => [0xA4]
  | .andL => [0xA5]
  | .andAtHl => [0xA6]
  | .andA => [0xA7]
  | .xorB => [0xA8]
  | .xorC => [0xA9]
  | .xorD => [0xAA]
  | .xorE => [0xAB]
  | .xorH => [0xAC]
  | .xorL => [0xAD]
  | .xorAtHl => [0xAE]
  | .xorA => [0xAF]
  | .orB => [0xB0]
  | .orC => [0xB1]
  | .orD => [0xB2]
  | .orE => [0xB3]
  | .orH => [0xB4]
  | .orL => [0xB5]
  | .orAtHl => [0xB6]
  | .orA => [0xB7]
  | .cpB => [0xB8]
  | .cpC => [0xB9]
  | .cpD => [0xBA]
  | .cpE => [0xBB]
  | .cpH => [0xBC]
  | .cpL => [0xBD]
  | .cpAtHl => [0xBE]
  | .cpA => [0xBF]
  | .retNz => [0xC0]
  | .popBc => [0xC1]
  | .jpNzA16 a16 => [0xC2, loByte a16, hiByte a16]
  | .jpA16 a16 => [0xC3, loByte a16, hiByte a16]
  | .callNzA16 a16 => [0xC4, loByte a16, hiByte a16]
  | .pushBc => [0xC5]
  | .addAN8 n8 => [0xC6, n8]
  | .rst00 => [0xC7]
  | .retZ => [0xC8]
  | .ret => [0xC9]
  | .jpZA16 a16 => [0xCA, loByte a16, hiByte a16]
  | .prefixCb => [0xCB]
  | .callZA16 a16 => [0xCC, loByte a16, hiByte a16]
  | .callA16 a16 => [0xCD, loByte a16, hiByte a16]
  | .adcAN8 n8 => [0xCE, n8]
  | .rst08 => [0xCF]
  | .retNc => [0xD0]
  | .popDe => [0xD1]
  | .jpNcA16 a16 => [0xD2, loByte a16, hiByte a16]
  | .illegalD3 => [0xD3]
  | .callNcA16 a16 => [0xD4, loByte a16, hiByte a16]
  | .pushDe => [0xD5]
  | .subN8 n8 => [0xD6, n8]
  | .rst10 => [0xD7]
  | .retC => [0xD8]
  | .reti => [0xD9]
  | .jpCA16 a16 => [0xDA, loByte a16, hiByte a16]
  | .illegalDB => [0xDB]
  | .callCA16 a16 => [0xDC, loByte a16, hiByte a16]
  | .illegalDD => [0xDD]
  | .sbcAN8 n8 => [0xDE, n8]
  | .rst18 => [0xDF]
  | .ldhAtA8A a8 => [0xE0, a8]
  | .popHl => [0xE1]
  | .ldhAtCA => [0xE2]
  | .illegalE3 => [0xE3]
  | .illegalE4 => [0xE4]
  | .pushHl => [0xE5]
  | .andN8 n8 => [0xE6, n8]
  | .rst20 => [0xE7]
  | .addSpE8 e8 => [0xE8, e8]
  | .jpHl => [0xE9]
  | .ldAtA16A a16 => [0xEA, loByte a16, hiByte a16]
  | .illegalEB => [0xEB]
  | .illegalEC => [0xEC]
  | .illegalED => [0xED]
  | .xorN8 n8 => [0xEE, n8]
  | .rst28 => [0xEF]
  | .ldhAAtA8 a8 => [0xF0, a8]
  | .popAf => [0xF1]
  | .ldhAAtC => [0xF2]
  | .di => [0xF3]
  | .illegalF4 => [0xF4]
  | .pushAf => [0xF5]
  | .orN8 n8 => [0xF6, n8]
  | .rst30 => [0xF7]
  | .ldHlSpE8 e8 => [0xF8, e8]
  | .ldSpHl => [0xF9]
  | .ldAAtA16 a16 => [0xFA, loByte a16, hiByte a16]
  | .ei => [0xFB]
  | .illegalFC => [0xFC]
  | .illegalFD => [0xFD]
  | .cpN8 n8 => [0xFE, n8]
  | .rst38 => [0xFF]
  | .rlcB => [0xCB, 0x00]
  | .rlcC => [0xCB, 0x01]
  | .rlcD => [0xCB, 0x02]
  | .rlcE => [0xCB, 0x03]
  | .rlcH => [0xCB, 0x04]
  | .rlcL => [0xCB, 0x05]
  | .rlcAtHl => [0xCB, 0x06]
  | .rlcA => [0xCB, 0x07]
  | .rrcB => [0xCB, 0x08]
  | .rrcC => [0xCB, 0x09]
  | .rrcD => [0xCB, 0x0A]
  | .rrcE => [0xCB, 0x0B]
  | .rrcH => [0xCB, 0x0C]
  | .rrcL => [0xCB, 0x0D]
  | .rrcAtHl => [0xCB, 0x0E]
  | .rrcA => [0xCB, 0x0F]
  | .rlB => [0xCB, 0x10]
  | .rlC => [0xCB, 0x11]
  | .rlD => [0xCB, 0x12]
  | .rlE => [0xCB, 0x13]
  | .rlH => [0xCB, 0x14]
  | .rlL => [0xCB, 0x15]
  | .rlAtHl => [0xCB, 0x16]
  | .rlA => [0xCB, 0x17]
  | .rrB => [0xCB, 0x18]
  | .rrC => [0xCB, 0x19]
  | .rrD => [0xCB, 0x1A]
  | .rrE => [0xCB, 0x1B]
  | .rrH => [0xCB, 0x1C]
  | .rrL => [0xCB, 0x1D]
  | .rrAtHl => [0xCB, 0x1E]
  | .rrA => [0xCB, 0x1F]
  | .slaB => [0xCB, 0x20]
  | .slaC => [0xCB, 0x21]
  | .slaD => [0xCB, 0x22]
  | .slaE => [0xCB, 0x23]
  | .slaH => [0xCB, 0x24]
  | .slaL => [0xCB, 0x25]
  | .slaAtHl => [0xCB, 0x26]
  | .slaA => [0xCB, 0x27]
  | .sraB => [0xCB, 0x28]
  | .sraC => [0xCB, 0x29]
  | .sraD => [0xCB, 0x2A]
  | .sraE => [0xCB, 0x2B]
  | .sraH => [0xCB, 0x2C]
  | .sraL => [0xCB, 0x2D]
  | .sraAtHl => [0xCB, 0x2E]
  | .sraA => [0xCB, 0x2F]
  | .swapB => [0xCB, 0x30]
  | .swapC => [0xCB, 0x31]
  | .swapD => [0xCB, 0x32]
  | .swapE => [0xCB, 0x33]
  | .swapH => [0xCB, 0x34]
  | .swapL => [0xCB, 0x35]
  | .swapAtHl => [0xCB, 0x36]
  | .swapA => [0xCB, 0x37]
  | .srlB => [0xCB, 0x38]
  | .srlC => [0xCB, 0x39]
  | .srlD => [0xCB, 0x3A]
  | .srlE => [0xCB, 0x3B]
  | .srlH => [0xCB, 0x3C]
  | .srlL => [0xCB, 0x3D]
  | .srlAtHl => [0xCB, 0x3E]
  | .srlA => [0xCB, 0x3F]
  | .bit0B => [0xCB, 0x40]
  | .bit0C => [0xCB, 0x41]
  | .bit0D => [0xCB, 0x42]
  | .bit0E => [0xCB, 0x43]
  | .bit0H => [0xCB, 0x44]
  | .bit0L => [0xCB, 0x45]
  | .bit0AtHl => [0xCB, 0x46]
  | .bit0A => [0xCB, 0x47]
  | .bit1B => [0xCB, 0x48]
  | .bit1C => [0xCB, 0x49]
  | .bit1D => [0xCB, 0x4A]
  | .bit1E => [0xCB, 0x4B]
  | .bit1H => [0xCB, 0x4C]
  | .bit1L => [0xCB, 0x4D]
  | .bit1AtHl => [0xCB, 0x4E]
  | .bit1A => [0xCB, 0x4F]
  | .bit2B => [0xCB, 0x50]
  | .bit2C => [0xCB, 0x51]
  | .bit2D => [0xCB, 0x52]
  | .bit2E => [0xCB, 0x53]
  | .bit2H => [0xCB, 0x54]
  | .bit2L => [0xCB, 0x55]
  | .bit2AtHl => [0xCB, 0x56]
  | .bit2A => [0xCB, 0x57]
  | .bit3B => [0xCB, 0x58]
  | .bit3C => [0xCB, 0x59]
  | .bit3D => [0xCB, 0x5A]
  | .bit3E => [0xCB, 0x5B]
  | .bit3H => [0xCB, 0x5C]
  | .bit3L => [0xCB, 0x5D]
  | .bit3AtHl => [0xCB, 0x5E]
  | .bit3A => [0xCB, 0x5F]
  | .bit4B => [0xCB, 0x60]
  | .bit4C => [0xCB, 0x61]
  | .bit4D => [0xCB, 0x62]
  | .bit4E => [0xCB, 0x63]
  | .bit4H => [0xCB, 0x64]
  | .bit4L => [0xCB, 0x65]
  | .bit4AtHl => [0xCB, 0x66]
  | .bit4A => [0xCB, 0x67]
  | .bit5B => [0xCB, 0x68]
  | .bit5C => [0xCB, 0x69]
  | .bit5D => [0xCB, 0x6A]
  | .bit5E => [0xCB, 0x6B]
  | .bit5H => [0xCB, 0x6C]
  | .bit5L => [0xCB, 0x6D]
  | .bit5AtHl => [0xCB, 0x6E]
  | .bit5A => [0xCB, 0x6F]
  | .bit6B => [0xCB, 0x70]
  | .bit6C => [0xCB, 0x71]
  | .bit6D => [0xCB, 0x72]
  | .bit6E => [0xCB, 0x73]
  | .bit6H => [0xCB, 0x74]
  | .bit6L => [0xCB, 0x75]
  | .bit6AtHl => [0xCB, 0x76]
  | .bit6A => [0xCB, 0x77]
  | .bit7B => [0xCB, 0x78]
  | .bit7C => [0xCB, 0x79]
  | .bit7D => [0xCB, 0x7A]
  | .bit7E => [0xCB, 0x7B]
  | .bit7H => [0xCB, 0x7C]
  | .bit7L => [0xCB, 0x7D]
  | .bit7AtHl => [0xCB, 0x7E]
  | .bit7A => [0xCB, 0x7F]
  | .res0B => [0xCB, 0x80]
  | .res0C => [0xCB, 0x81]
  | .res0D => [0xCB, 0x82]
  | .res0E => [0xCB, 0x83]
  | .res0H => [0xCB, 0x84]
  | .res0L => [0xCB, 0x85]
  | .res0AtHl => [0xCB, 0x86]
  | .res0A => [0xCB, 0x87]
  | .res1B => [0xCB, 0x88]
  | .res1C => [0xCB, 0x89]
  | .res1D => [0xCB, 0x8A]
  | .res1E => [0xCB, 0x8B]
  | .res1H => [0xCB, 0x8C]
  | .res1L => [0xCB, 0x8D]
  | .res1AtHl => [0xCB, 0x8E]
  | .res1A => [0xCB, 0x8F]
  | .res2B => [0xCB, 0x90]
  | .res2C => [0xCB, 0x91]
  | .res2D => [0xCB, 0x92]
  | .res2E => [0xCB, 0x93]
  | .res2H => [0xCB, 0x94]
  | .res2L => [0xCB, 0x95]
  | .res2AtHl => [0xCB, 0x96]
  | .res2A => [0xCB, 0x97]
  | .res3B => [0xCB, 0x98]
  | .res3C => [0xCB, 0x99]
  | .res3D => [0xCB, 0x9A]
  | .res3E => [0xCB, 0x9B]
  | .res3H => [0xCB, 0x9C]
  | .res3L => [0xCB, 0x9D]
  | .res3AtHl => [0xCB, 0x9E]
  | .res3A => [0xCB, 0x9F]
  | .res4B => [0xCB, 0xA0]
  | .res4C => [0xCB, 0xA1]
  | .res4D => [0xCB, 0xA2]
  | .res4E => [0xCB, 0xA3]
  | .res4H => [0xCB, 0xA4]
  | .res4L => [0xCB, 0xA5]
  | .res4AtHl => [0xCB, 0xA6]
  | .res4A => [0xCB, 0xA7]
  | .res5B => [0xCB, 0xA8]
  | .res5C => [0xCB, 0xA9]
  | .res5D => [0xCB, 0xAA]
  | .res5E => [0xCB, 0xAB]
  | .res5H => [0xCB, 0xAC]
  | .res5L => [0xCB, 0xAD]
  | .res5AtHl => [0xCB, 0xAE]
  | .res5A => [0xCB, 0xAF]
  | .res6B => [0xCB, 0xB0]
  | .res6C => [0xCB, 0xB1]
  | .res6D => [0xCB, 0xB2]
  | .res6E => [0xCB, 0xB3]
  | .res6H => [0xCB, 0xB4]
  | .res6L => [0xCB, 0xB5]
  | .res6AtHl => [0xCB, 0xB6]
  | .res6A => [0xCB, 0xB7]
  | .res7B => [0xCB, 0xB8]
  | .res7C => [0xCB, 0xB9]
  | .res7D => [0xCB, 0xBA]
  | .res7E => [0xCB, 0xBB]
  | .res7H => [0xCB, 0xBC]
  | .res7L => [0xCB, 0xBD]
  | .res7AtHl => [0xCB, 0xBE]
  | .res7A => [0xCB, 0xBF]
  | .set0B => [0xCB, 0xC0]
  | .set0C => [0xCB, 0xC1]
  | .set0D => [0xCB, 0xC2]
  | .set0E => [0xCB, 0xC3]
  | .set0H => [0xCB, 0xC4]
  | .set0L => [0xCB, 0xC5]
  | .set0AtHl => [0xCB, 0xC6]
  | .set0A => [0xCB, 0xC7]
  | .set1B => [0xCB, 0xC8]
  | .set1C => [0xCB, 0xC9]
  | .set1D => [0xCB, 0xCA]
  | .set1E => [0xCB, 0xCB]
  | .set1H => [0xCB, 0xCC]
  | .set1L => [0xCB, 0xCD]
  | .set1AtHl => [0xCB, 0xCE]
  | .set1A => [0xCB, 0xCF]
  | .set2B => [0xCB, 0xD0]
  | .set2C => [0xCB, 0xD1]
  | .set2D => [0xCB, 0xD2]
  | .set2E => [0xCB, 0xD3]
  | .set2H => [0xCB, 0xD4]
  | .set2L => [0xCB, 0xD5]
  | .set2AtHl => [0xCB, 0xD6]
  | .set2A => [0xCB, 0xD7]
  | .set3B => [0xCB, 0xD8]
  | .set3C => [0xCB, 0xD9]
  | .set3D => [0xCB, 0xDA]
  | .set3E => [0xCB, 0xDB]
  | .set3H => [0xCB, 0xDC]
  | .set3L => [0xCB, 0xDD]
  | .set3AtHl => [0xCB, 0xDE]
  | .set3A => [0xCB, 0xDF]
  | .set4B => [0xCB, 0xE0]
  | .set4C => [0xCB, 0xE1]
  | .set4D => [0xCB, 0xE2]
  | .set4E => [0xCB, 0xE3]
  | .set4H => [0xCB, 0xE4]
  | .set4L => [0xCB, 0xE5]
  | .set4AtHl => [0xCB, 0xE6]
  | .set4A => [0xCB, 0xE7]
  | .set5B => [0xCB, 0xE8]
  | .set5C => [0xCB, 0xE9]
  | .set5D => [0xCB, 0xEA]
  | .set5E => [0xCB, 0xEB]
  | .set5H => [0xCB, 0xEC]
  | .set5L => [0xCB, 0xED]
  | .set5AtHl => [0xCB, 0xEE]
  | .set5A => [0xCB, 0xEF]
  | .set6B => [0xCB, 0xF0]
  | .set6C => [0xCB, 0xF1]
  | .set6D => [0xCB, 0xF2]
  | .set6E => [0xCB, 0xF3]
  | .set6H => [0xCB, 0xF4]
  | .set6L => [0xCB, 0xF5]
  | .set6AtHl => [0xCB, 0xF6]
  | .set6A => [0xCB, 0xF7]
  | .set7B => [0xCB, 0xF8]
  | .set7C => [0xCB, 0xF9]
  | .set7D => [0xCB, 0xFA]
  | .set7E => [0xCB, 0xFB]
  | .set7H => [0xCB, 0xFC]
  | .set7L => [0xCB, 0xFD]
  | .set7AtHl => [0xCB, 0xFE]
  | .set7A => [0xCB, 0xFF]

/-! ## Words of the opcode table -/

/-- The three bytes of an instruction whose table bits are `w`, every bit from `nbits` on 0, as they lie in memory. A base-table
row has 8 bits, byte 0. opcode_table.json numbers an extended row with byte 0 as the MORE significant of its 16 bits (R110:
"`match = 0xCBnn` ... byte 0 being the more significant byte of the pattern"), so a 16-bit pattern 0xCBnn lies as CB then nn;
any other pattern lies with its bits 7:0 first (log 3). -/
def tableBytes (nbits w : Nat) : List Byte :=
  if nbits = 16 ∧ w / 0x100 % 0x100 = 0xCB then [0xCB, BitVec.ofNat 8 w, 0x00]
  else
    [BitVec.ofNat 8 (w % 2 ^ nbits), BitVec.ofNat 8 (w % 2 ^ nbits / 0x100), BitVec.ofNat 8 (w % 2 ^ nbits / 0x10000)]

/-- The instruction the decoder reads from the table word `w` of `nbits` bits. -/
def decodeTableWord (nbits w : Nat) : Option Instr :=
  match decode (tableBytes nbits w) with
  | .instr i _ => some i
  | .rejected _ => none

end Sys2Proof
end

