-- ==== Sys2Proof/Machine/Rotate.lean ====
section
/-! DEFINITION. Rotates and shifts (44_rotate_shift_bit.md R250 to R277). -/

namespace Sys2Proof.Machine

/-! ## Shared operations -/

/-- The rotates of the accumulator (R250 to R253): `fZ` is always cleared. -/
def rotateA (op : RotOp) (s : State) : Result :=
  finish 1 ((s.setReg .a (rotate8 op s.a s.fC).value).setFlags
    { z := false, n := false, h := false, c := (rotate8 op s.a s.fC).carry })

/-- The rotates and shifts of the extended table (R262 to R277): read, compute, write, then the flags. -/
def rotateOperand (op : RotOp) (o : Operand8) (s : State) : Result :=
  (s.setOperand o (rotate8 op (s.operand o) s.fC).value).andThen fun t =>
    finish 2 (t.setFlags
      { z := (rotate8 op (s.operand o) s.fC).value == 0
        n := false
        h := false
        c := (rotate8 op (s.operand o) s.fC).carry })

/-! ## The instructions -/

/-- `RLCA` (R250). -/
def execRlca (s : State) : Result := rotateA .rlc s

/-- `RRCA` (R251). -/
def execRrca (s : State) : Result := rotateA .rrc s

/-- `RLA` (R252). -/
def execRla (s : State) : Result := rotateA .rl s

/-- `RRA` (R253). -/
def execRra (s : State) : Result := rotateA .rr s

/-- `RLC B` (R262). -/
def execRlcB (s : State) : Result := rotateOperand .rlc (.reg .b) s

/-- `RLC C` (R262). -/
def execRlcC (s : State) : Result := rotateOperand .rlc (.reg .c) s

/-- `RLC D` (R262). -/
def execRlcD (s : State) : Result := rotateOperand .rlc (.reg .d) s

/-- `RLC E` (R262). -/
def execRlcE (s : State) : Result := rotateOperand .rlc (.reg .e) s

/-- `RLC H` (R262). -/
def execRlcH (s : State) : Result := rotateOperand .rlc (.reg .h) s

/-- `RLC L` (R262). -/
def execRlcL (s : State) : Result := rotateOperand .rlc (.reg .l) s

/-- `RLC (HL)` (R263). -/
def execRlcAtHl (s : State) : Result := rotateOperand .rlc .atHl s

/-- `RLC A` (R262). -/
def execRlcA (s : State) : Result := rotateOperand .rlc (.reg .a) s

/-- `RRC B` (R264). -/
def execRrcB (s : State) : Result := rotateOperand .rrc (.reg .b) s

/-- `RRC C` (R264). -/
def execRrcC (s : State) : Result := rotateOperand .rrc (.reg .c) s

/-- `RRC D` (R264). -/
def execRrcD (s : State) : Result := rotateOperand .rrc (.reg .d) s

/-- `RRC E` (R264). -/
def execRrcE (s : State) : Result := rotateOperand .rrc (.reg .e) s

/-- `RRC H` (R264). -/
def execRrcH (s : State) : Result := rotateOperand .rrc (.reg .h) s

/-- `RRC L` (R264). -/
def execRrcL (s : State) : Result := rotateOperand .rrc (.reg .l) s

/-- `RRC (HL)` (R265). -/
def execRrcAtHl (s : State) : Result := rotateOperand .rrc .atHl s

/-- `RRC A` (R264). -/
def execRrcA (s : State) : Result := rotateOperand .rrc (.reg .a) s

/-- `RL B` (R266). -/
def execRlB (s : State) : Result := rotateOperand .rl (.reg .b) s

/-- `RL C` (R266). -/
def execRlC (s : State) : Result := rotateOperand .rl (.reg .c) s

/-- `RL D` (R266). -/
def execRlD (s : State) : Result := rotateOperand .rl (.reg .d) s

/-- `RL E` (R266). -/
def execRlE (s : State) : Result := rotateOperand .rl (.reg .e) s

/-- `RL H` (R266). -/
def execRlH (s : State) : Result := rotateOperand .rl (.reg .h) s

/-- `RL L` (R266). -/
def execRlL (s : State) : Result := rotateOperand .rl (.reg .l) s

/-- `RL (HL)` (R267). -/
def execRlAtHl (s : State) : Result := rotateOperand .rl .atHl s

/-- `RL A` (R266). -/
def execRlA (s : State) : Result := rotateOperand .rl (.reg .a) s

/-- `RR B` (R268). -/
def execRrB (s : State) : Result := rotateOperand .rr (.reg .b) s

/-- `RR C` (R268). -/
def execRrC (s : State) : Result := rotateOperand .rr (.reg .c) s

/-- `RR D` (R268). -/
def execRrD (s : State) : Result := rotateOperand .rr (.reg .d) s

/-- `RR E` (R268). -/
def execRrE (s : State) : Result := rotateOperand .rr (.reg .e) s

/-- `RR H` (R268). -/
def execRrH (s : State) : Result := rotateOperand .rr (.reg .h) s

/-- `RR L` (R268). -/
def execRrL (s : State) : Result := rotateOperand .rr (.reg .l) s

/-- `RR (HL)` (R269). -/
def execRrAtHl (s : State) : Result := rotateOperand .rr .atHl s

/-- `RR A` (R268). -/
def execRrA (s : State) : Result := rotateOperand .rr (.reg .a) s

/-- `SLA B` (R270). -/
def execSlaB (s : State) : Result := rotateOperand .sla (.reg .b) s

/-- `SLA C` (R270). -/
def execSlaC (s : State) : Result := rotateOperand .sla (.reg .c) s

/-- `SLA D` (R270). -/
def execSlaD (s : State) : Result := rotateOperand .sla (.reg .d) s

/-- `SLA E` (R270). -/
def execSlaE (s : State) : Result := rotateOperand .sla (.reg .e) s

/-- `SLA H` (R270). -/
def execSlaH (s : State) : Result := rotateOperand .sla (.reg .h) s

/-- `SLA L` (R270). -/
def execSlaL (s : State) : Result := rotateOperand .sla (.reg .l) s

/-- `SLA (HL)` (R271). -/
def execSlaAtHl (s : State) : Result := rotateOperand .sla .atHl s

/-- `SLA A` (R270). -/
def execSlaA (s : State) : Result := rotateOperand .sla (.reg .a) s

/-- `SRA B` (R272). -/
def execSraB (s : State) : Result := rotateOperand .sra (.reg .b) s

/-- `SRA C` (R272). -/
def execSraC (s : State) : Result := rotateOperand .sra (.reg .c) s

/-- `SRA D` (R272). -/
def execSraD (s : State) : Result := rotateOperand .sra (.reg .d) s

/-- `SRA E` (R272). -/
def execSraE (s : State) : Result := rotateOperand .sra (.reg .e) s

/-- `SRA H` (R272). -/
def execSraH (s : State) : Result := rotateOperand .sra (.reg .h) s

/-- `SRA L` (R272). -/
def execSraL (s : State) : Result := rotateOperand .sra (.reg .l) s

/-- `SRA (HL)` (R273). -/
def execSraAtHl (s : State) : Result := rotateOperand .sra .atHl s

/-- `SRA A` (R272). -/
def execSraA (s : State) : Result := rotateOperand .sra (.reg .a) s

/-- `SWAP B` (R274). -/
def execSwapB (s : State) : Result := rotateOperand .swap (.reg .b) s

/-- `SWAP C` (R274). -/
def execSwapC (s : State) : Result := rotateOperand .swap (.reg .c) s

/-- `SWAP D` (R274). -/
def execSwapD (s : State) : Result := rotateOperand .swap (.reg .d) s

/-- `SWAP E` (R274). -/
def execSwapE (s : State) : Result := rotateOperand .swap (.reg .e) s

/-- `SWAP H` (R274). -/
def execSwapH (s : State) : Result := rotateOperand .swap (.reg .h) s

/-- `SWAP L` (R274). -/
def execSwapL (s : State) : Result := rotateOperand .swap (.reg .l) s

/-- `SWAP (HL)` (R275). -/
def execSwapAtHl (s : State) : Result := rotateOperand .swap .atHl s

/-- `SWAP A` (R274). -/
def execSwapA (s : State) : Result := rotateOperand .swap (.reg .a) s

/-- `SRL B` (R276). -/
def execSrlB (s : State) : Result := rotateOperand .srl (.reg .b) s

/-- `SRL C` (R276). -/
def execSrlC (s : State) : Result := rotateOperand .srl (.reg .c) s

/-- `SRL D` (R276). -/
def execSrlD (s : State) : Result := rotateOperand .srl (.reg .d) s

/-- `SRL E` (R276). -/
def execSrlE (s : State) : Result := rotateOperand .srl (.reg .e) s

/-- `SRL H` (R276). -/
def execSrlH (s : State) : Result := rotateOperand .srl (.reg .h) s

/-- `SRL L` (R276). -/
def execSrlL (s : State) : Result := rotateOperand .srl (.reg .l) s

/-- `SRL (HL)` (R277). -/
def execSrlAtHl (s : State) : Result := rotateOperand .srl .atHl s

/-- `SRL A` (R276). -/
def execSrlA (s : State) : Result := rotateOperand .srl (.reg .a) s

end Sys2Proof.Machine
end

