-- ==== Sys2Proof/Machine/Control.lean ====
section
/-! DEFINITION. Jumps, calls, returns and restarts (45_control_flow.md R300 to R311). No instruction of this family writes a flag. -/

namespace Sys2Proof.Machine

/-! ## Shared operations -/

/-- `PC <- target` (R300, R302). -/
def jump (target : Word) (s : State) : Result := .next (s.jumpTo target)

/-- `PC <- target` if the condition holds, else the default advance (R301, R304, R307). -/
def jumpIf (cc : Cond) (target : Word) (len : Word) (s : State) : Result :=
  if s.holds cc then jump target s else finish len s

/-- `next + sext_16(e8)` with `next` the address after the two-byte JR (R303). -/
def relativeTarget (e8 : Byte) (s : State) : Word := s.nextPc 2 + sext16 e8

/-- `push16(next)`, then `PC <- target` (R305, R311). -/
def callSubroutine (target : Word) (len : Word) (s : State) : Result := (s.push16 (s.nextPc len)).andThen (jump target)

/-- `CALL cc,a16` (R306): not taken, the stack is not touched. -/
def callIf (cc : Cond) (target : Word) (s : State) : Result :=
  if s.holds cc then callSubroutine target 3 s else finish 3 s

/-- `PC <- pop16()` (R308). -/
def returnTo (s : State) : Result := s.withPop16 jump

/-- `RET cc` (R309): not taken, the stack is not read. -/
def returnIf (cc : Cond) (s : State) : Result := if s.holds cc then returnTo s else finish 1 s

/-! ## The instructions -/

/-- `JR e8` (R303). -/
def execJrE8 (e8 : Byte) (s : State) : Result := jump (relativeTarget e8 s) s

/-- `JR NZ,e8` (R304). -/
def execJrNzE8 (e8 : Byte) (s : State) : Result := jumpIf .nz (relativeTarget e8 s) 2 s

/-- `JR Z,e8` (R304). -/
def execJrZE8 (e8 : Byte) (s : State) : Result := jumpIf .z (relativeTarget e8 s) 2 s

/-- `JR NC,e8` (R304). -/
def execJrNcE8 (e8 : Byte) (s : State) : Result := jumpIf .nc (relativeTarget e8 s) 2 s

/-- `JR C,e8` (R304). -/
def execJrCE8 (e8 : Byte) (s : State) : Result := jumpIf .c (relativeTarget e8 s) 2 s

/-- `RET NZ` (R309). -/
def execRetNz (s : State) : Result := returnIf .nz s

/-- `JP NZ,a16` (R301). -/
def execJpNzA16 (a16 : Word) (s : State) : Result := jumpIf .nz a16 3 s

/-- `JP a16` (R300). -/
def execJpA16 (a16 : Word) (s : State) : Result := jump a16 s

/-- `CALL NZ,a16` (R306). -/
def execCallNzA16 (a16 : Word) (s : State) : Result := callIf .nz a16 s

/-- `RST 00H` (R311). -/
def execRst00 (s : State) : Result := callSubroutine 0x0000 1 s

/-- `RET Z` (R309). -/
def execRetZ (s : State) : Result := returnIf .z s

/-- `RET` (R308). -/
def execRet (s : State) : Result := returnTo s

/-- `JP Z,a16` (R301). -/
def execJpZA16 (a16 : Word) (s : State) : Result := jumpIf .z a16 3 s

/-- `CALL Z,a16` (R306). -/
def execCallZA16 (a16 : Word) (s : State) : Result := callIf .z a16 s

/-- `CALL a16` (R305). -/
def execCallA16 (a16 : Word) (s : State) : Result := callSubroutine a16 3 s

/-- `RST 08H` (R311). -/
def execRst08 (s : State) : Result := callSubroutine 0x0008 1 s

/-- `RET NC` (R309). -/
def execRetNc (s : State) : Result := returnIf .nc s

/-- `JP NC,a16` (R301). -/
def execJpNcA16 (a16 : Word) (s : State) : Result := jumpIf .nc a16 3 s

/-- `CALL NC,a16` (R306). -/
def execCallNcA16 (a16 : Word) (s : State) : Result := callIf .nc a16 s

/-- `RST 10H` (R311). -/
def execRst10 (s : State) : Result := callSubroutine 0x0010 1 s

/-- `RET C` (R309). -/
def execRetC (s : State) : Result := returnIf .c s

/-- `RETI` (R310). -/
def execReti (s : State) : Result := returnTo { s with ime := true }

/-- `JP C,a16` (R301). -/
def execJpCA16 (a16 : Word) (s : State) : Result := jumpIf .c a16 3 s

/-- `CALL C,a16` (R306). -/
def execCallCA16 (a16 : Word) (s : State) : Result := callIf .c a16 s

/-- `RST 18H` (R311). -/
def execRst18 (s : State) : Result := callSubroutine 0x0018 1 s

/-- `RST 20H` (R311). -/
def execRst20 (s : State) : Result := callSubroutine 0x0020 1 s

/-- `JP HL` (R302). -/
def execJpHl (s : State) : Result := jump s.hl s

/-- `RST 28H` (R311). -/
def execRst28 (s : State) : Result := callSubroutine 0x0028 1 s

/-- `RST 30H` (R311). -/
def execRst30 (s : State) : Result := callSubroutine 0x0030 1 s

/-- `RST 38H` (R311). -/
def execRst38 (s : State) : Result := callSubroutine 0x0038 1 s

end Sys2Proof.Machine
end

