-- ==== Sys2Proof/Machine/Load16.lean ====
section
/-! DEFINITION. The 16-bit loads and the stack instructions (41_load16_stack.md R172 to R178). -/

namespace Sys2Proof.Machine

/-! ## Shared operations -/

/-- Load a pair or `SP` and advance (R172, R174). -/
def loadPair (p : Reg16) (v : Word) (len : Word) (s : State) : Result := finish len (s.setPair p v)

/-- Store a word and advance (R173). -/
def storeWord (address : Word) (v : Word) (len : Word) (s : State) : Result := (s.write16 address v).andThen (finish len)

/-- `HL <- SP + sext_16(e8)` with the low-byte carries as flags (R175). -/
def loadHlFromSp (e8 : Byte) (s : State) : Result :=
  finish 2 ((s.setHl (s.sp + sext16 e8)).setFlags (spDisplacementFlags s.sp e8))

/-- `push16(r16stk[p])` (R176). -/
def pushPair (p : StackPair) (s : State) : Result := (s.push16 (s.stackPair p)).andThen (finish 1)

/-- `r16stk[p] <- pop16()` (R177, R178). -/
def popPair (p : StackPair) (s : State) : Result := s.withPop16 fun v t => finish 1 (t.setStackPair p v)

/-! ## The instructions -/

/-- `LD BC,n16` (R172). -/
def execLdBcN16 (n16 : Word) (s : State) : Result := loadPair .bc n16 3 s

/-- `LD (a16),SP` (R173). -/
def execLdAtA16Sp (a16 : Word) (s : State) : Result := storeWord a16 s.sp 3 s

/-- `LD DE,n16` (R172). -/
def execLdDeN16 (n16 : Word) (s : State) : Result := loadPair .de n16 3 s

/-- `LD HL,n16` (R172). -/
def execLdHlN16 (n16 : Word) (s : State) : Result := loadPair .hl n16 3 s

/-- `LD SP,n16` (R172). -/
def execLdSpN16 (n16 : Word) (s : State) : Result := loadPair .sp n16 3 s

/-- `POP BC` (R177). -/
def execPopBc (s : State) : Result := popPair .bc s

/-- `PUSH BC` (R176). -/
def execPushBc (s : State) : Result := pushPair .bc s

/-- `POP DE` (R177). -/
def execPopDe (s : State) : Result := popPair .de s

/-- `PUSH DE` (R176). -/
def execPushDe (s : State) : Result := pushPair .de s

/-- `POP HL` (R177). -/
def execPopHl (s : State) : Result := popPair .hl s

/-- `PUSH HL` (R176). -/
def execPushHl (s : State) : Result := pushPair .hl s

/-- `POP AF` (R178). -/
def execPopAf (s : State) : Result := popPair .af s

/-- `PUSH AF` (R176). -/
def execPushAf (s : State) : Result := pushPair .af s

/-- `LD HL,SP+e8` (R175). -/
def execLdHlSpE8 (e8 : Byte) (s : State) : Result := loadHlFromSp e8 s

/-- `LD SP,HL` (R174). -/
def execLdSpHl (s : State) : Result := loadPair .sp s.hl 1 s

end Sys2Proof.Machine
end

