-- ==== Sys2Proof/Machine/Load8.lean ====
section
/-! DEFINITION. The 8-bit load and store instructions (40_load8.md R130 to R148). None of them writes a flag. -/

namespace Sys2Proof.Machine

/-! ## Shared operations -/

/-- Load a register and advance: the shape of every 8-bit load. -/
def loadReg (r : Reg8) (v : Byte) (len : Word) (s : State) : Result := finish len (s.setReg r v)

/-- Store a byte and advance: the shape of every 8-bit store. -/
def storeByte (address : Word) (v : Byte) (len : Word) (s : State) : Result := (s.write8 address v).andThen (finish len)

/-- `A <- MemRead(HL, 1)`, then `HL <- HL + delta` (R146, R148). -/
def loadThenAdjustHl (delta : Word) (s : State) : Result :=
  finish 1 ((s.setReg .a (s.read8 s.hl)).setHl (s.hl + delta))

/-- `MemWrite(HL, 1, A)`, then `HL <- HL + delta` (R145, R147): a faulting store comes before the adjustment. -/
def storeThenAdjustHl (delta : Word) (s : State) : Result :=
  (s.write8 s.hl s.a).andThen fun t => finish 1 (t.setHl (s.hl + delta))

/-! ## The instructions -/

/-- `LD (BC),A` (R137). -/
def execLdAtBcA (s : State) : Result := storeByte s.bc s.a 1 s

/-- `LD B,n8` (R131). -/
def execLdBN8 (n8 : Byte) (s : State) : Result := loadReg .b n8 2 s

/-- `LD A,(BC)` (R135). -/
def execLdAAtBc (s : State) : Result := loadReg .a (s.read8 s.bc) 1 s

/-- `LD C,n8` (R131). -/
def execLdCN8 (n8 : Byte) (s : State) : Result := loadReg .c n8 2 s

/-- `LD (DE),A` (R138). -/
def execLdAtDeA (s : State) : Result := storeByte s.de s.a 1 s

/-- `LD D,n8` (R131). -/
def execLdDN8 (n8 : Byte) (s : State) : Result := loadReg .d n8 2 s

/-- `LD A,(DE)` (R136). -/
def execLdAAtDe (s : State) : Result := loadReg .a (s.read8 s.de) 1 s

/-- `LD E,n8` (R131). -/
def execLdEN8 (n8 : Byte) (s : State) : Result := loadReg .e n8 2 s

/-- `LDI (HL),A` (R145). -/
def execLdiAtHlA (s : State) : Result := storeThenAdjustHl 1 s

/-- `LD H,n8` (R131). -/
def execLdHN8 (n8 : Byte) (s : State) : Result := loadReg .h n8 2 s

/-- `LDI A,(HL)` (R146). -/
def execLdiAAtHl (s : State) : Result := loadThenAdjustHl 1 s

/-- `LD L,n8` (R131). -/
def execLdLN8 (n8 : Byte) (s : State) : Result := loadReg .l n8 2 s

/-- `LDD (HL),A` (R147). -/
def execLddAtHlA (s : State) : Result := storeThenAdjustHl (-1) s

/-- `LD (HL),n8` (R134). -/
def execLdAtHlN8 (n8 : Byte) (s : State) : Result := storeByte s.hl n8 2 s

/-- `LDD A,(HL)` (R148). -/
def execLddAAtHl (s : State) : Result := loadThenAdjustHl (-1) s

/-- `LD A,n8` (R131). -/
def execLdAN8 (n8 : Byte) (s : State) : Result := loadReg .a n8 2 s

/-- `LD B,B` (R130). -/
def execLdBB (s : State) : Result := loadReg .b (s.reg .b) 1 s

/-- `LD B,C` (R130). -/
def execLdBC (s : State) : Result := loadReg .b (s.reg .c) 1 s

/-- `LD B,D` (R130). -/
def execLdBD (s : State) : Result := loadReg .b (s.reg .d) 1 s

/-- `LD B,E` (R130). -/
def execLdBE (s : State) : Result := loadReg .b (s.reg .e) 1 s

/-- `LD B,H` (R130). -/
def execLdBH (s : State) : Result := loadReg .b (s.reg .h) 1 s

/-- `LD B,L` (R130). -/
def execLdBL (s : State) : Result := loadReg .b (s.reg .l) 1 s

/-- `LD B,(HL)` (R132). -/
def execLdBAtHl (s : State) : Result := loadReg .b (s.read8 s.hl) 1 s

/-- `LD B,A` (R130). -/
def execLdBA (s : State) : Result := loadReg .b (s.reg .a) 1 s

/-- `LD C,B` (R130). -/
def execLdCB (s : State) : Result := loadReg .c (s.reg .b) 1 s

/-- `LD C,C` (R130). -/
def execLdCC (s : State) : Result := loadReg .c (s.reg .c) 1 s

/-- `LD C,D` (R130). -/
def execLdCD (s : State) : Result := loadReg .c (s.reg .d) 1 s

/-- `LD C,E` (R130). -/
def execLdCE (s : State) : Result := loadReg .c (s.reg .e) 1 s

/-- `LD C,H` (R130). -/
def execLdCH (s : State) : Result := loadReg .c (s.reg .h) 1 s

/-- `LD C,L` (R130). -/
def execLdCL (s : State) : Result := loadReg .c (s.reg .l) 1 s

/-- `LD C,(HL)` (R132). -/
def execLdCAtHl (s : State) : Result := loadReg .c (s.read8 s.hl) 1 s

/-- `LD C,A` (R130). -/
def execLdCA (s : State) : Result := loadReg .c (s.reg .a) 1 s

/-- `LD D,B` (R130). -/
def execLdDB (s : State) : Result := loadReg .d (s.reg .b) 1 s

/-- `LD D,C` (R130). -/
def execLdDC (s : State) : Result := loadReg .d (s.reg .c) 1 s

/-- `LD D,D` (R130). -/
def execLdDD (s : State) : Result := loadReg .d (s.reg .d) 1 s

/-- `LD D,E` (R130). -/
def execLdDE (s : State) : Result := loadReg .d (s.reg .e) 1 s

/-- `LD D,H` (R130). -/
def execLdDH (s : State) : Result := loadReg .d (s.reg .h) 1 s

/-- `LD D,L` (R130). -/
def execLdDL (s : State) : Result := loadReg .d (s.reg .l) 1 s

/-- `LD D,(HL)` (R132). -/
def execLdDAtHl (s : State) : Result := loadReg .d (s.read8 s.hl) 1 s

/-- `LD D,A` (R130). -/
def execLdDA (s : State) : Result := loadReg .d (s.reg .a) 1 s

/-- `LD E,B` (R130). -/
def execLdEB (s : State) : Result := loadReg .e (s.reg .b) 1 s

/-- `LD E,C` (R130). -/
def execLdEC (s : State) : Result := loadReg .e (s.reg .c) 1 s

/-- `LD E,D` (R130). -/
def execLdED (s : State) : Result := loadReg .e (s.reg .d) 1 s

/-- `LD E,E` (R130). -/
def execLdEE (s : State) : Result := loadReg .e (s.reg .e) 1 s

/-- `LD E,H` (R130). -/
def execLdEH (s : State) : Result := loadReg .e (s.reg .h) 1 s

/-- `LD E,L` (R130). -/
def execLdEL (s : State) : Result := loadReg .e (s.reg .l) 1 s

/-- `LD E,(HL)` (R132). -/
def execLdEAtHl (s : State) : Result := loadReg .e (s.read8 s.hl) 1 s

/-- `LD E,A` (R130). -/
def execLdEA (s : State) : Result := loadReg .e (s.reg .a) 1 s

/-- `LD H,B` (R130). -/
def execLdHB (s : State) : Result := loadReg .h (s.reg .b) 1 s

/-- `LD H,C` (R130). -/
def execLdHC (s : State) : Result := loadReg .h (s.reg .c) 1 s

/-- `LD H,D` (R130). -/
def execLdHD (s : State) : Result := loadReg .h (s.reg .d) 1 s

/-- `LD H,E` (R130). -/
def execLdHE (s : State) : Result := loadReg .h (s.reg .e) 1 s

/-- `LD H,H` (R130). -/
def execLdHH (s : State) : Result := loadReg .h (s.reg .h) 1 s

/-- `LD H,L` (R130). -/
def execLdHL (s : State) : Result := loadReg .h (s.reg .l) 1 s

/-- `LD H,(HL)` (R132). -/
def execLdHAtHl (s : State) : Result := loadReg .h (s.read8 s.hl) 1 s

/-- `LD H,A` (R130). -/
def execLdHA (s : State) : Result := loadReg .h (s.reg .a) 1 s

/-- `LD L,B` (R130). -/
def execLdLB (s : State) : Result := loadReg .l (s.reg .b) 1 s

/-- `LD L,C` (R130). -/
def execLdLC (s : State) : Result := loadReg .l (s.reg .c) 1 s

/-- `LD L,D` (R130). -/
def execLdLD (s : State) : Result := loadReg .l (s.reg .d) 1 s

/-- `LD L,E` (R130). -/
def execLdLE (s : State) : Result := loadReg .l (s.reg .e) 1 s

/-- `LD L,H` (R130). -/
def execLdLH (s : State) : Result := loadReg .l (s.reg .h) 1 s

/-- `LD L,L` (R130). -/
def execLdLL (s : State) : Result := loadReg .l (s.reg .l) 1 s

/-- `LD L,(HL)` (R132). -/
def execLdLAtHl (s : State) : Result := loadReg .l (s.read8 s.hl) 1 s

/-- `LD L,A` (R130). -/
def execLdLA (s : State) : Result := loadReg .l (s.reg .a) 1 s

/-- `LD (HL),B` (R133). -/
def execLdAtHlB (s : State) : Result := storeByte s.hl (s.reg .b) 1 s

/-- `LD (HL),C` (R133). -/
def execLdAtHlC (s : State) : Result := storeByte s.hl (s.reg .c) 1 s

/-- `LD (HL),D` (R133). -/
def execLdAtHlD (s : State) : Result := storeByte s.hl (s.reg .d) 1 s

/-- `LD (HL),E` (R133). -/
def execLdAtHlE (s : State) : Result := storeByte s.hl (s.reg .e) 1 s

/-- `LD (HL),H` (R133). -/
def execLdAtHlH (s : State) : Result := storeByte s.hl (s.reg .h) 1 s

/-- `LD (HL),L` (R133). -/
def execLdAtHlL (s : State) : Result := storeByte s.hl (s.reg .l) 1 s

/-- `LD (HL),A` (R133). -/
def execLdAtHlA (s : State) : Result := storeByte s.hl (s.reg .a) 1 s

/-- `LD A,B` (R130). -/
def execLdAB (s : State) : Result := loadReg .a (s.reg .b) 1 s

/-- `LD A,C` (R130). -/
def execLdAC (s : State) : Result := loadReg .a (s.reg .c) 1 s

/-- `LD A,D` (R130). -/
def execLdAD (s : State) : Result := loadReg .a (s.reg .d) 1 s

/-- `LD A,E` (R130). -/
def execLdAE (s : State) : Result := loadReg .a (s.reg .e) 1 s

/-- `LD A,H` (R130). -/
def execLdAH (s : State) : Result := loadReg .a (s.reg .h) 1 s

/-- `LD A,L` (R130). -/
def execLdAL (s : State) : Result := loadReg .a (s.reg .l) 1 s

/-- `LD A,(HL)` (R132). -/
def execLdAAtHl (s : State) : Result := loadReg .a (s.read8 s.hl) 1 s

/-- `LD A,A` (R130). -/
def execLdAA (s : State) : Result := loadReg .a (s.reg .a) 1 s

/-- `LDH (a8),A` (R142). -/
def execLdhAtA8A (a8 : Byte) (s : State) : Result := storeByte (highAddress a8) s.a 2 s

/-- `LDH (C),A` (R144). -/
def execLdhAtCA (s : State) : Result := storeByte (highAddress s.c) s.a 1 s

/-- `LD (a16),A` (R140). -/
def execLdAtA16A (a16 : Word) (s : State) : Result := storeByte a16 s.a 3 s

/-- `LDH A,(a8)` (R141). -/
def execLdhAAtA8 (a8 : Byte) (s : State) : Result := loadReg .a (s.read8 (highAddress a8)) 2 s

/-- `LDH A,(C)` (R143). -/
def execLdhAAtC (s : State) : Result := loadReg .a (s.read8 (highAddress s.c)) 1 s

/-- `LD A,(a16)` (R139). -/
def execLdAAtA16 (a16 : Word) (s : State) : Result := loadReg .a (s.read8 a16) 3 s

end Sys2Proof.Machine
end

