-- ==== Sys2Proof/Machine/System.lean ====
section
/-! DEFINITION. No-op, halt, stop, interrupt-enable and reserved opcodes (46_system.md R320 to R326). -/

namespace Sys2Proof.Machine

/-! ## Shared operations -/

/-- `RUN <- LowPower`, then the default advance (R321, R322). -/
def enterLowPower (len : Word) (s : State) : Result := finish len { s with run := .lowPower }

/-- `IME <- b`, at once (R323, R324). -/
def writeIme (v : Bool) (s : State) : Result := finish 1 { s with ime := v }

/-- The no-op of a reserved byte: `ILLEGAL_POLICY = nop` (R326, R346). -/
def reservedNoOp (s : State) : Result := finish 1 s

/-! ## The instructions -/

/-- `NOP` (R320). -/
def execNop (s : State) : Result := finish 1 s

/-- `STOP` (R322). -/
def execStop (s : State) : Result := enterLowPower 2 s

/-- `HALT` (R321). -/
def execHalt (s : State) : Result := enterLowPower 1 s

/-- `ILLEGAL_D3` (R326). -/
def execIllegalD3 (s : State) : Result := reservedNoOp s

/-- `ILLEGAL_DB` (R326). -/
def execIllegalDB (s : State) : Result := reservedNoOp s

/-- `ILLEGAL_DD` (R326). -/
def execIllegalDD (s : State) : Result := reservedNoOp s

/-- `ILLEGAL_E3` (R326). -/
def execIllegalE3 (s : State) : Result := reservedNoOp s

/-- `ILLEGAL_E4` (R326). -/
def execIllegalE4 (s : State) : Result := reservedNoOp s

/-- `ILLEGAL_EB` (R326). -/
def execIllegalEB (s : State) : Result := reservedNoOp s

/-- `ILLEGAL_EC` (R326). -/
def execIllegalEC (s : State) : Result := reservedNoOp s

/-- `ILLEGAL_ED` (R326). -/
def execIllegalED (s : State) : Result := reservedNoOp s

/-- `DI` (R323). -/
def execDi (s : State) : Result := writeIme false s

/-- `ILLEGAL_F4` (R326). -/
def execIllegalF4 (s : State) : Result := reservedNoOp s

/-- `EI` (R324). -/
def execEi (s : State) : Result := writeIme true s

/-- `ILLEGAL_FC` (R326). -/
def execIllegalFC (s : State) : Result := reservedNoOp s

/-- `ILLEGAL_FD` (R326). -/
def execIllegalFD (s : State) : Result := reservedNoOp s

end Sys2Proof.Machine
end

