-- ==== Sys2Proof/Machine/Fetch.lean ====
section
/-! DEFINITION. Fetching the bytes of the next instruction: steps 1 to 3 of 30_encoding.md R90, performed anew at every step with
the ordinary bus reads (20_memory.md R68). -/

namespace Sys2Proof.Machine

/-- Read the inline operand at `PC + 1` modulo 65536 (R90 step 3, R100): one byte with `read8`, one word with `read16`, which
faults at 0xFFFF (R56). STOP's padding byte is not read (R322). -/
def fetchOperand (s : State) : Descriptor → Except Fault (List Byte)
  | .plain _ => .ok []
  | .padded _ => .ok []
  | .oneByte _ => .ok [s.read8 (s.pc + 1)]
  | .oneWord _ =>
    match s.read16 (s.pc + 1) with
    | .error x => .error x
    | .ok w => .ok [loByte w, hiByte w]

/-- The bytes of the instruction at `PC`: the opcode byte, and then the extended opcode byte after 0xCB, or the inline operand
that the base-table entry asks for (R90, R92, R100). The operand is read before the operation and before any condition (D23). -/
def fetch (s : State) : Except Fault (List Byte) :=
  if s.read8 s.pc = Config.extendedByte then .ok [s.read8 s.pc, s.read8 (s.pc + 1)]
  else
    match fetchOperand s (baseDescriptor (s.read8 s.pc)) with
    | .error x => .error x
    | .ok operand => .ok (s.read8 s.pc :: operand)

/-- Store bytes at an address and the ones after it, modulo 65536, whatever the region: how a program comes to lie in memory
from outside (R58, R66). -/
def State.placeBytes (s : State) : Word → List Byte → State
  | _, [] => s
  | address, v :: vs => State.placeBytes { s with mem := s.mem.write address.toNat v } (address + 1) vs

end Sys2Proof.Machine
end

