-- ==== Sys2Proof/Machine/Step.lean ====
section
/-! DEFINITION. One step (30_encoding.md R90): one whole instruction, or nothing in `LowPower`. -/

namespace Sys2Proof.Machine

/-- Fetch, decode and execute the instruction at `PC` (R90 steps 1 to 5; each meaning does its own step 5). -/
def stepRunning (s : State) : Host.Outcome State Fault Refusal :=
  match fetch s with
  | .error x => raiseFault x
  | .ok bytes =>
    match decode bytes with
    | .instr i _ => exec i s
    | .rejected _ => .refused .undecodedBytes

/-- One step (R90). In `LowPower` nothing is fetched and nothing changes (R325). After a fatal fault no step is defined (R343). -/
def step (s : State) : Host.Outcome State Fault Refusal :=
  if s.faulted then .refused .stepAfterFatalFault
  else
    match s.run with
    | .lowPower => .next s
    | .running => stepRunning s

/-- The state with an instruction's table word stored where the next step fetches (at `PC`), ready to run: `Running`, faulted
mark clear. -/
def State.withFetchWord (s : State) (nbits w : Nat) : State :=
  State.placeBytes { s with run := .running, faulted := false } s.pc (tableBytes nbits w)

end Sys2Proof.Machine
end

