-- ==== Sys2Proof/Machine/Cycles.lean ====
section
/-! DEFINITION. Instruction lengths (30_encoding.md R93) and cycle costs (R108), and the cycle count a step reports: an output
beside the state transition that no rule reads (70_reset_and_hazards.md R390). -/

namespace Sys2Proof.Machine

/-- The cost of an instruction: one number, or two that a condition selects from, the taken one first (R108, R307). -/
inductive Cost
  | fixed (cycles : Nat)
  | conditional (cc : Cond) (taken untaken : Nat)
  deriving DecidableEq, Repr

/-- The length of every table entry in bytes (R93, R108). -/
def instrLength : Instr → Nat
  | .nop | .ldAtBcA | .incBc | .incB | .decB | .rlca | .addHlBc | .ldAAtBc | .decBc | .incC | .decC | .rrca
  | .ldAtDeA | .incDe | .incD | .decD | .rla | .addHlDe | .ldAAtDe | .decDe | .incE | .decE | .rra | .ldiAtHlA
  | .incHl | .incH | .decH | .daa | .addHlHl | .ldiAAtHl | .decHl | .incL | .decL | .cpl | .lddAtHlA | .incSp
  | .incAtHl | .decAtHl | .scf | .addHlSp | .lddAAtHl | .decSp | .incA | .decA | .ccf | .ldBB | .ldBC | .ldBD | .ldBE
  | .ldBH | .ldBL | .ldBAtHl | .ldBA | .ldCB | .ldCC | .ldCD | .ldCE | .ldCH | .ldCL | .ldCAtHl | .ldCA | .ldDB
  | .ldDC | .ldDD | .ldDE | .ldDH | .ldDL | .ldDAtHl | .ldDA | .ldEB | .ldEC | .ldED | .ldEE | .ldEH | .ldEL
  | .ldEAtHl | .ldEA | .ldHB | .ldHC | .ldHD | .ldHE | .ldHH | .ldHL | .ldHAtHl | .ldHA | .ldLB | .ldLC | .ldLD
  | .ldLE | .ldLH | .ldLL | .ldLAtHl | .ldLA | .ldAtHlB | .ldAtHlC | .ldAtHlD | .ldAtHlE | .ldAtHlH | .ldAtHlL
  | .halt | .ldAtHlA | .ldAB | .ldAC | .ldAD | .ldAE | .ldAH | .ldAL | .ldAAtHl | .ldAA | .addAB | .addAC | .addAD
  | .addAE | .addAH | .addAL | .addAAtHl | .addAA | .adcAB | .adcAC | .adcAD | .adcAE | .adcAH | .adcAL | .adcAAtHl
  | .adcAA | .subB | .subC | .subD | .subE | .subH | .subL | .subAtHl | .subA | .sbcAB | .sbcAC | .sbcAD | .sbcAE
  | .sbcAH | .sbcAL | .sbcAAtHl | .sbcAA | .andB | .andC | .andD | .andE | .andH | .andL | .andAtHl | .andA | .xorB
  | .xorC | .xorD | .xorE | .xorH | .xorL | .xorAtHl | .xorA | .orB | .orC | .orD | .orE | .orH | .orL | .orAtHl
  | .orA | .cpB | .cpC | .cpD | .cpE | .cpH | .cpL | .cpAtHl | .cpA | .retNz | .popBc | .pushBc | .rst00 | .retZ
  | .ret | .prefixCb | .rst08 | .retNc | .popDe | .illegalD3 | .pushDe | .rst10 | .retC | .reti | .illegalDB
  | .illegalDD | .rst18 | .popHl | .ldhAtCA | .illegalE3 | .illegalE4 | .pushHl | .rst20 | .jpHl | .illegalEB
  | .illegalEC | .illegalED | .rst28 | .popAf | .ldhAAtC | .di | .illegalF4 | .pushAf | .rst30 | .ldSpHl | .ei
  | .illegalFC | .illegalFD | .rst38
    => 1
  | .ldBN8 _ | .ldCN8 _ | .stop | .ldDN8 _ | .jrE8 _ | .ldEN8 _ | .jrNzE8 _ | .ldHN8 _ | .jrZE8 _ | .ldLN8 _
  | .jrNcE8 _ | .ldAtHlN8 _ | .jrCE8 _ | .ldAN8 _ | .addAN8 _ | .adcAN8 _ | .subN8 _ | .sbcAN8 _ | .ldhAtA8A _
  | .andN8 _ | .addSpE8 _ | .xorN8 _ | .ldhAAtA8 _ | .orN8 _ | .ldHlSpE8 _ | .cpN8 _ | .rlcB | .rlcC | .rlcD | .rlcE
  | .rlcH | .rlcL | .rlcAtHl | .rlcA | .rrcB | .rrcC | .rrcD | .rrcE | .rrcH | .rrcL | .rrcAtHl | .rrcA | .rlB | .rlC
  | .rlD | .rlE | .rlH | .rlL | .rlAtHl | .rlA | .rrB | .rrC | .rrD | .rrE | .rrH | .rrL | .rrAtHl | .rrA | .slaB
  | .slaC | .slaD | .slaE | .slaH | .slaL | .slaAtHl | .slaA | .sraB | .sraC | .sraD | .sraE | .sraH | .sraL
  | .sraAtHl | .sraA | .swapB | .swapC | .swapD | .swapE | .swapH | .swapL | .swapAtHl | .swapA | .srlB | .srlC
  | .srlD | .srlE | .srlH | .srlL | .srlAtHl | .srlA | .bit0B | .bit0C | .bit0D | .bit0E | .bit0H | .bit0L
  | .bit0AtHl | .bit0A | .bit1B | .bit1C | .bit1D | .bit1E | .bit1H | .bit1L | .bit1AtHl | .bit1A | .bit2B | .bit2C
  | .bit2D | .bit2E | .bit2H | .bit2L | .bit2AtHl | .bit2A | .bit3B | .bit3C | .bit3D | .bit3E | .bit3H | .bit3L
  | .bit3AtHl | .bit3A | .bit4B | .bit4C | .bit4D | .bit4E | .bit4H | .bit4L | .bit4AtHl | .bit4A | .bit5B | .bit5C
  | .bit5D | .bit5E | .bit5H | .bit5L | .bit5AtHl | .bit5A | .bit6B | .bit6C | .bit6D | .bit6E | .bit6H | .bit6L
  | .bit6AtHl | .bit6A | .bit7B | .bit7C | .bit7D | .bit7E | .bit7H | .bit7L | .bit7AtHl | .bit7A | .res0B | .res0C
  | .res0D | .res0E | .res0H | .res0L | .res0AtHl | .res0A | .res1B | .res1C | .res1D | .res1E | .res1H | .res1L
  | .res1AtHl | .res1A | .res2B | .res2C | .res2D | .res2E | .res2H | .res2L | .res2AtHl | .res2A | .res3B | .res3C
  | .res3D | .res3E | .res3H | .res3L | .res3AtHl | .res3A | .res4B | .res4C | .res4D | .res4E | .res4H | .res4L
  | .res4AtHl | .res4A | .res5B | .res5C | .res5D | .res5E | .res5H | .res5L | .res5AtHl | .res5A | .res6B | .res6C
  | .res6D | .res6E | .res6H | .res6L | .res6AtHl | .res6A | .res7B | .res7C | .res7D | .res7E | .res7H | .res7L
  | .res7AtHl | .res7A | .set0B | .set0C | .set0D | .set0E | .set0H | .set0L | .set0AtHl | .set0A | .set1B | .set1C
  | .set1D | .set1E | .set1H | .set1L | .set1AtHl | .set1A | .set2B | .set2C | .set2D | .set2E | .set2H | .set2L
  | .set2AtHl | .set2A | .set3B | .set3C | .set3D | .set3E | .set3H | .set3L | .set3AtHl | .set3A | .set4B | .set4C
  | .set4D | .set4E | .set4H | .set4L | .set4AtHl | .set4A | .set5B | .set5C | .set5D | .set5E | .set5H | .set5L
  | .set5AtHl | .set5A | .set6B | .set6C | .set6D | .set6E | .set6H | .set6L | .set6AtHl | .set6A | .set7B | .set7C
  | .set7D | .set7E | .set7H | .set7L | .set7AtHl | .set7A
    => 2
  | .ldBcN16 _ | .ldAtA16Sp _ | .ldDeN16 _ | .ldHlN16 _ | .ldSpN16 _ | .jpNzA16 _ | .jpA16 _ | .callNzA16 _
  | .jpZA16 _ | .callZA16 _ | .callA16 _ | .jpNcA16 _ | .callNcA16 _ | .jpCA16 _ | .callCA16 _ | .ldAtA16A _
  | .ldAAtA16 _
    => 3

/-- The cost of every table entry (R108, R391). -/
def instrCost : Instr → Cost
  | .jrCE8 _
    => .conditional .c 12 8
  | .jpCA16 _
    => .conditional .c 16 12
  | .retC
    => .conditional .c 20 8
  | .callCA16 _
    => .conditional .c 24 12
  | .jrNcE8 _
    => .conditional .nc 12 8
  | .jpNcA16 _
    => .conditional .nc 16 12
  | .retNc
    => .conditional .nc 20 8
  | .callNcA16 _
    => .conditional .nc 24 12
  | .jrNzE8 _
    => .conditional .nz 12 8
  | .jpNzA16 _
    => .conditional .nz 16 12
  | .retNz
    => .conditional .nz 20 8
  | .callNzA16 _
    => .conditional .nz 24 12
  | .jrZE8 _
    => .conditional .z 12 8
  | .jpZA16 _
    => .conditional .z 16 12
  | .retZ
    => .conditional .z 20 8
  | .callZA16 _
    => .conditional .z 24 12
  | .ldBcN16 _ | .ldDeN16 _ | .jrE8 _ | .ldHlN16 _ | .ldSpN16 _ | .incAtHl | .decAtHl | .ldAtHlN8 _ | .popBc | .popDe
  | .ldhAtA8A _ | .popHl | .ldhAAtA8 _ | .popAf | .ldHlSpE8 _ | .bit0AtHl | .bit1AtHl | .bit2AtHl | .bit3AtHl
  | .bit4AtHl | .bit5AtHl | .bit6AtHl | .bit7AtHl
    => .fixed 12
  | .jpA16 _ | .pushBc | .rst00 | .ret | .rst08 | .pushDe | .rst10 | .reti | .rst18 | .pushHl | .rst20 | .addSpE8 _
  | .ldAtA16A _ | .rst28 | .pushAf | .rst30 | .ldAAtA16 _ | .rst38 | .rlcAtHl | .rrcAtHl | .rlAtHl | .rrAtHl
  | .slaAtHl | .sraAtHl | .swapAtHl | .srlAtHl | .res0AtHl | .res1AtHl | .res2AtHl | .res3AtHl | .res4AtHl
  | .res5AtHl | .res6AtHl | .res7AtHl | .set0AtHl | .set1AtHl | .set2AtHl | .set3AtHl | .set4AtHl | .set5AtHl
  | .set6AtHl | .set7AtHl
    => .fixed 16
  | .ldAtA16Sp _
    => .fixed 20
  | .callA16 _
    => .fixed 24
  | .nop | .incB | .decB | .rlca | .incC | .decC | .rrca | .stop | .incD | .decD | .rla | .incE | .decE | .rra
  | .incH | .decH | .daa | .incL | .decL | .cpl | .scf | .incA | .decA | .ccf | .ldBB | .ldBC | .ldBD | .ldBE | .ldBH
  | .ldBL | .ldBA | .ldCB | .ldCC | .ldCD | .ldCE | .ldCH | .ldCL | .ldCA | .ldDB | .ldDC | .ldDD | .ldDE | .ldDH
  | .ldDL | .ldDA | .ldEB | .ldEC | .ldED | .ldEE | .ldEH | .ldEL | .ldEA | .ldHB | .ldHC | .ldHD | .ldHE | .ldHH
  | .ldHL | .ldHA | .ldLB | .ldLC | .ldLD | .ldLE | .ldLH | .ldLL | .ldLA | .halt | .ldAB | .ldAC | .ldAD | .ldAE
  | .ldAH | .ldAL | .ldAA | .addAB | .addAC | .addAD | .addAE | .addAH | .addAL | .addAA | .adcAB | .adcAC | .adcAD
  | .adcAE | .adcAH | .adcAL | .adcAA | .subB | .subC | .subD | .subE | .subH | .subL | .subA | .sbcAB | .sbcAC
  | .sbcAD | .sbcAE | .sbcAH | .sbcAL | .sbcAA | .andB | .andC | .andD | .andE | .andH | .andL | .andA | .xorB
  | .xorC | .xorD | .xorE | .xorH | .xorL | .xorA | .orB | .orC | .orD | .orE | .orH | .orL | .orA | .cpB | .cpC
  | .cpD | .cpE | .cpH | .cpL | .cpA | .prefixCb | .illegalD3 | .illegalDB | .illegalDD | .illegalE3 | .illegalE4
  | .jpHl | .illegalEB | .illegalEC | .illegalED | .di | .illegalF4 | .ei | .illegalFC | .illegalFD
    => .fixed 4
  | .ldAtBcA | .incBc | .ldBN8 _ | .addHlBc | .ldAAtBc | .decBc | .ldCN8 _ | .ldAtDeA | .incDe | .ldDN8 _ | .addHlDe
  | .ldAAtDe | .decDe | .ldEN8 _ | .ldiAtHlA | .incHl | .ldHN8 _ | .addHlHl | .ldiAAtHl | .decHl | .ldLN8 _
  | .lddAtHlA | .incSp | .addHlSp | .lddAAtHl | .decSp | .ldAN8 _ | .ldBAtHl | .ldCAtHl | .ldDAtHl | .ldEAtHl
  | .ldHAtHl | .ldLAtHl | .ldAtHlB | .ldAtHlC | .ldAtHlD | .ldAtHlE | .ldAtHlH | .ldAtHlL | .ldAtHlA | .ldAAtHl
  | .addAAtHl | .adcAAtHl | .subAtHl | .sbcAAtHl | .andAtHl | .xorAtHl | .orAtHl | .cpAtHl | .addAN8 _ | .adcAN8 _
  | .subN8 _ | .sbcAN8 _ | .ldhAtCA | .andN8 _ | .xorN8 _ | .ldhAAtC | .orN8 _ | .ldSpHl | .cpN8 _ | .rlcB | .rlcC
  | .rlcD | .rlcE | .rlcH | .rlcL | .rlcA | .rrcB | .rrcC | .rrcD | .rrcE | .rrcH | .rrcL | .rrcA | .rlB | .rlC
  | .rlD | .rlE | .rlH | .rlL | .rlA | .rrB | .rrC | .rrD | .rrE | .rrH | .rrL | .rrA | .slaB | .slaC | .slaD | .slaE
  | .slaH | .slaL | .slaA | .sraB | .sraC | .sraD | .sraE | .sraH | .sraL | .sraA | .swapB | .swapC | .swapD | .swapE
  | .swapH | .swapL | .swapA | .srlB | .srlC | .srlD | .srlE | .srlH | .srlL | .srlA | .bit0B | .bit0C | .bit0D
  | .bit0E | .bit0H | .bit0L | .bit0A | .bit1B | .bit1C | .bit1D | .bit1E | .bit1H | .bit1L | .bit1A | .bit2B
  | .bit2C | .bit2D | .bit2E | .bit2H | .bit2L | .bit2A | .bit3B | .bit3C | .bit3D | .bit3E | .bit3H | .bit3L
  | .bit3A | .bit4B | .bit4C | .bit4D | .bit4E | .bit4H | .bit4L | .bit4A | .bit5B | .bit5C | .bit5D | .bit5E
  | .bit5H | .bit5L | .bit5A | .bit6B | .bit6C | .bit6D | .bit6E | .bit6H | .bit6L | .bit6A | .bit7B | .bit7C
  | .bit7D | .bit7E | .bit7H | .bit7L | .bit7A | .res0B | .res0C | .res0D | .res0E | .res0H | .res0L | .res0A
  | .res1B | .res1C | .res1D | .res1E | .res1H | .res1L | .res1A | .res2B | .res2C | .res2D | .res2E | .res2H
  | .res2L | .res2A | .res3B | .res3C | .res3D | .res3E | .res3H | .res3L | .res3A | .res4B | .res4C | .res4D
  | .res4E | .res4H | .res4L | .res4A | .res5B | .res5C | .res5D | .res5E | .res5H | .res5L | .res5A | .res6B
  | .res6C | .res6D | .res6E | .res6H | .res6L | .res6A | .res7B | .res7C | .res7D | .res7E | .res7H | .res7L
  | .res7A | .set0B | .set0C | .set0D | .set0E | .set0H | .set0L | .set0A | .set1B | .set1C | .set1D | .set1E
  | .set1H | .set1L | .set1A | .set2B | .set2C | .set2D | .set2E | .set2H | .set2L | .set2A | .set3B | .set3C
  | .set3D | .set3E | .set3H | .set3L | .set3A | .set4B | .set4C | .set4D | .set4E | .set4H | .set4L | .set4A
  | .set5B | .set5C | .set5D | .set5E | .set5H | .set5L | .set5A | .set6B | .set6C | .set6D | .set6E | .set6H
  | .set6L | .set6A | .set7B | .set7C | .set7D | .set7E | .set7H | .set7L | .set7A
    => .fixed 8

/-- The cycles an instruction reports when it is executed in a state (R90 step 4, R307). -/
def Cost.inState (k : Cost) (s : State) : Nat :=
  match k with
  | .fixed n => n
  | .conditional cc taken untaken => if s.holds cc then taken else untaken

/-- The cycles a step reports: 0 for an idle step (R325, R392), nothing when the step does not complete (R8). -/
def stepCycles (s : State) : Option Nat :=
  match step s with
  | .next _ =>
    match s.run with
    | .lowPower => some 0
    | .running =>
      match fetch s with
      | .error _ => none
      | .ok bytes =>
        match decode bytes with
        | .instr i _ => some ((instrCost i).inState s)
        | .rejected _ => none
  | .fault _ => none
  | .refused _ => none

end Sys2Proof.Machine
end

