-- ==== Sys2Proof/Machine/Footprint.lean ====
section
/-! DEFINITION. Which memory each instruction stores to and which fatal fault it meets, written from the lists of
20_memory.md R70 and 60_exceptions.md R341, R342, R347 and not from the meanings: the two are compared by statements. -/

namespace Sys2Proof.Machine

/-- The address of a one-byte store (R70). -/
inductive ByteAddress
  | hl
  | bc
  | de
  | absolute (a16 : Word)
  | high (a8 : Byte)
  | highC
  deriving DecidableEq, Repr

/-- The data access of an instruction that can store or fault (R70, R341, R342); every other instruction can do neither. -/
inductive Access
  /-- no store, no 16-bit data access -/
  | noFault
  /-- one byte stored -/
  | byteAt (a : ByteAddress)
  /-- `LD (a16),SP` -/
  | wordAt (a16 : Word)
  /-- `PUSH`, `CALL`, `RST` -/
  | push
  /-- `CALL cc` -/
  | pushIf (cc : Cond)
  /-- `POP`, `RET`, `RETI` -/
  | pop
  /-- `RET cc` -/
  | popIf (cc : Cond)
  /-- whatever the entry of the second table does -/
  | extended
  deriving DecidableEq, Repr

/-- The data access of every table entry (R70, R341, R342). -/
def instrAccess : Instr → Access
  | .nop | .ldBcN16 _ | .incBc | .incB | .decB | .ldBN8 _ | .rlca | .addHlBc | .ldAAtBc | .decBc | .incC | .decC
  | .ldCN8 _ | .rrca | .stop | .ldDeN16 _ | .incDe | .incD | .decD | .ldDN8 _ | .rla | .jrE8 _ | .addHlDe | .ldAAtDe
  | .decDe | .incE | .decE | .ldEN8 _ | .rra | .jrNzE8 _ | .ldHlN16 _ | .incHl | .incH | .decH | .ldHN8 _ | .daa
  | .jrZE8 _ | .addHlHl | .ldiAAtHl | .decHl | .incL | .decL | .ldLN8 _ | .cpl | .jrNcE8 _ | .ldSpN16 _ | .incSp
  | .scf | .jrCE8 _ | .addHlSp | .lddAAtHl | .decSp | .incA | .decA | .ldAN8 _ | .ccf | .ldBB | .ldBC | .ldBD | .ldBE
  | .ldBH | .ldBL | .ldBAtHl | .ldBA | .ldCB | .ldCC | .ldCD | .ldCE | .ldCH | .ldCL | .ldCAtHl | .ldCA | .ldDB
  | .ldDC | .ldDD | .ldDE | .ldDH | .ldDL | .ldDAtHl | .ldDA | .ldEB | .ldEC | .ldED | .ldEE | .ldEH | .ldEL
  | .ldEAtHl | .ldEA | .ldHB | .ldHC | .ldHD | .ldHE | .ldHH | .ldHL | .ldHAtHl | .ldHA | .ldLB | .ldLC | .ldLD
  | .ldLE | .ldLH | .ldLL | .ldLAtHl | .ldLA | .halt | .ldAB | .ldAC | .ldAD | .ldAE | .ldAH | .ldAL | .ldAAtHl
  | .ldAA | .addAB | .addAC | .addAD | .addAE | .addAH | .addAL | .addAAtHl | .addAA | .adcAB | .adcAC | .adcAD
  | .adcAE | .adcAH | .adcAL | .adcAAtHl | .adcAA | .subB | .subC | .subD | .subE | .subH | .subL | .subAtHl | .subA
  | .sbcAB | .sbcAC | .sbcAD | .sbcAE | .sbcAH | .sbcAL | .sbcAAtHl | .sbcAA | .andB | .andC | .andD | .andE | .andH
  | .andL | .andAtHl | .andA | .xorB | .xorC | .xorD | .xorE | .xorH | .xorL | .xorAtHl | .xorA | .orB | .orC | .orD
  | .orE | .orH | .orL | .orAtHl | .orA | .cpB | .cpC | .cpD | .cpE | .cpH | .cpL | .cpAtHl | .cpA | .jpNzA16 _
  | .jpA16 _ | .addAN8 _ | .jpZA16 _ | .adcAN8 _ | .jpNcA16 _ | .illegalD3 | .subN8 _ | .jpCA16 _ | .illegalDB
  | .illegalDD | .sbcAN8 _ | .illegalE3 | .illegalE4 | .andN8 _ | .addSpE8 _ | .jpHl | .illegalEB | .illegalEC
  | .illegalED | .xorN8 _ | .ldhAAtA8 _ | .ldhAAtC | .di | .illegalF4 | .orN8 _ | .ldHlSpE8 _ | .ldSpHl | .ldAAtA16 _
  | .ei | .illegalFC | .illegalFD | .cpN8 _ | .rlcB | .rlcC | .rlcD | .rlcE | .rlcH | .rlcL | .rlcA | .rrcB | .rrcC
  | .rrcD | .rrcE | .rrcH | .rrcL | .rrcA | .rlB | .rlC | .rlD | .rlE | .rlH | .rlL | .rlA | .rrB | .rrC | .rrD
  | .rrE | .rrH | .rrL | .rrA | .slaB | .slaC | .slaD | .slaE | .slaH | .slaL | .slaA | .sraB | .sraC | .sraD | .sraE
  | .sraH | .sraL | .sraA | .swapB | .swapC | .swapD | .swapE | .swapH | .swapL | .swapA | .srlB | .srlC | .srlD
  | .srlE | .srlH | .srlL | .srlA | .bit0B | .bit0C | .bit0D | .bit0E | .bit0H | .bit0L | .bit0AtHl | .bit0A | .bit1B
  | .bit1C | .bit1D | .bit1E | .bit1H | .bit1L | .bit1AtHl | .bit1A | .bit2B | .bit2C | .bit2D | .bit2E | .bit2H
  | .bit2L | .bit2AtHl | .bit2A | .bit3B | .bit3C | .bit3D | .bit3E | .bit3H | .bit3L | .bit3AtHl | .bit3A | .bit4B
  | .bit4C | .bit4D | .bit4E | .bit4H | .bit4L | .bit4AtHl | .bit4A | .bit5B | .bit5C | .bit5D | .bit5E | .bit5H
  | .bit5L | .bit5AtHl | .bit5A | .bit6B | .bit6C | .bit6D | .bit6E | .bit6H | .bit6L | .bit6AtHl | .bit6A | .bit7B
  | .bit7C | .bit7D | .bit7E | .bit7H | .bit7L | .bit7AtHl | .bit7A | .res0B | .res0C | .res0D | .res0E | .res0H
  | .res0L | .res0A | .res1B | .res1C | .res1D | .res1E | .res1H | .res1L | .res1A | .res2B | .res2C | .res2D
  | .res2E | .res2H | .res2L | .res2A | .res3B | .res3C | .res3D | .res3E | .res3H | .res3L | .res3A | .res4B
  | .res4C | .res4D | .res4E | .res4H | .res4L | .res4A | .res5B | .res5C | .res5D | .res5E | .res5H | .res5L
  | .res5A | .res6B | .res6C | .res6D | .res6E | .res6H | .res6L | .res6A | .res7B | .res7C | .res7D | .res7E
  | .res7H | .res7L | .res7A | .set0B | .set0C | .set0D | .set0E | .set0H | .set0L | .set0A | .set1B | .set1C
  | .set1D | .set1E | .set1H | .set1L | .set1A | .set2B | .set2C | .set2D | .set2E | .set2H | .set2L | .set2A
  | .set3B | .set3C | .set3D | .set3E | .set3H | .set3L | .set3A | .set4B | .set4C | .set4D | .set4E | .set4H
  | .set4L | .set4A | .set5B | .set5C | .set5D | .set5E | .set5H | .set5L | .set5A | .set6B | .set6C | .set6D
  | .set6E | .set6H | .set6L | .set6A | .set7B | .set7C | .set7D | .set7E | .set7H | .set7L | .set7A
    => .noFault
  | .ldAtBcA
    => .byteAt .bc
  | .ldAtA16Sp a16
    => .wordAt a16
  | .ldAtDeA
    => .byteAt .de
  | .ldiAtHlA | .lddAtHlA | .incAtHl | .decAtHl | .ldAtHlN8 _ | .ldAtHlB | .ldAtHlC | .ldAtHlD | .ldAtHlE | .ldAtHlH
  | .ldAtHlL | .ldAtHlA | .rlcAtHl | .rrcAtHl | .rlAtHl | .rrAtHl | .slaAtHl | .sraAtHl | .swapAtHl | .srlAtHl
  | .res0AtHl | .res1AtHl | .res2AtHl | .res3AtHl | .res4AtHl | .res5AtHl | .res6AtHl | .res7AtHl | .set0AtHl
  | .set1AtHl | .set2AtHl | .set3AtHl | .set4AtHl | .set5AtHl | .set6AtHl | .set7AtHl
    => .byteAt .hl
  | .retNz
    => .popIf .nz
  | .popBc | .ret | .popDe | .reti | .popHl | .popAf
    => .pop
  | .callNzA16 _
    => .pushIf .nz
  | .pushBc | .rst00 | .callA16 _ | .rst08 | .pushDe | .rst10 | .rst18 | .pushHl | .rst20 | .rst28 | .pushAf | .rst30
  | .rst38
    => .push
  | .retZ
    => .popIf .z
  | .prefixCb
    => .extended
  | .callZA16 _
    => .pushIf .z
  | .retNc
    => .popIf .nc
  | .callNcA16 _
    => .pushIf .nc
  | .retC
    => .popIf .c
  | .callCA16 _
    => .pushIf .c
  | .ldhAtA8A a8
    => .byteAt (.high a8)
  | .ldhAtCA
    => .byteAt .highC
  | .ldAtA16A a16
    => .byteAt (.absolute a16)

/-- The instruction the base-table entry 0xCB stands for in a state (R92); any other stands for itself. -/
def resolve (i : Instr) (s : State) : Instr :=
  if i = .prefixCb then extendedInstr (s.read8 (s.pc + 1)) else i

/-- The address a one-byte store goes to. -/
def ByteAddress.inState (s : State) : ByteAddress → Word
  | .hl => s.hl
  | .bc => s.bc
  | .de => s.de
  | .absolute a16 => a16
  | .high a8 => highAddress a8
  | .highC => highAddress s.c

/-- A one-byte store faults below the boundary (R54, R342). -/
def byteStoreFault (address : Word) : Option Fault :=
  if address.toNat < 0x8000 then some .fatalWriteProtectionError else none

/-- A word store faults below the boundary, and at 0xFFFF (R55, R341, R342). -/
def wordStoreFault (address : Word) : Option Fault :=
  if address.toNat < 0x8000 then some .fatalWriteProtectionError
  else if address = 0xFFFF then some .fatalBoundsError
  else none

/-- A word read faults at 0xFFFF (R53, R341). -/
def wordReadFault (address : Word) : Option Fault := if address = 0xFFFF then some .fatalBoundsError else none

/-- The fault an access meets in a state, if any (R341, R342). -/
def Access.fault (s : State) : Access → Option Fault
  | .noFault => none
  | .byteAt a => byteStoreFault (a.inState s)
  | .wordAt a16 => wordStoreFault a16
  | .push => wordStoreFault (s.sp - 2)
  | .pushIf cc => if s.holds cc then wordStoreFault (s.sp - 2) else none
  | .pop => wordReadFault s.sp
  | .popIf cc => if s.holds cc then wordReadFault s.sp else none
  | .extended => none

/-- The addresses an access stores to in a state (R54, R55, R70, R170). -/
def Access.stored (s : State) : Access → List Word
  | .noFault => []
  | .byteAt a => [a.inState s]
  | .wordAt a16 => [a16, a16 + 1]
  | .push => [s.sp - 2, s.sp - 1]
  | .pushIf cc => if s.holds cc then [s.sp - 2, s.sp - 1] else []
  | .pop => []
  | .popIf _ => []
  | .extended => []

/-- The fault executing an instruction meets in a state, if any. -/
def execFault (i : Instr) (s : State) : Option Fault := (instrAccess (resolve i s)).fault s

/-- The addresses executing an instruction stores to in a state. -/
def storedAddresses (i : Instr) (s : State) : List Word := (instrAccess (resolve i s)).stored s

end Sys2Proof.Machine
end

