-- ==== Sys2Proof/Machine/HostOps.lean ====
section
/-! DEFINITION. What the outside world does to the machine between two steps: reset, the ROM mounts, the external events, the
host loop (20_memory.md R58, R59, R66; 60_exceptions.md R344, R351; 70_reset_and_hazards.md R380, R383). -/

namespace Sys2Proof.Machine

/-! ## Reset and the mounts -/

/-- The reset event (R380): the same state whatever went before; it also clears the faulted mark (R343). -/
def hostReset (_ : State) : State := State.reset

/-- Why a mount fails (R344): a result of the host call, no fault of the core. -/
inductive MountError
  | invalidBankSize
  deriving DecidableEq, Repr

/-- Copy a bank to a window: `size` is the number of bytes given; the rest of the window keeps its value, the write protection
does not apply, and nothing changes on failure (R58, D20). DESIGN CHOICE where the faulted mark is set: past a fatal fault only reset
is defined (R380), and the model lets a mount act as on a live machine and keeps the mark (log 17). -/
def mountBank (base : Nat) (data : List Byte) (s : State) : Except MountError State :=
  if data.length ≤ Config.bankSize then .ok { s with mem := s.mem.writeBytes base data }
  else .error .invalidBankSize

/-- `mountFixedBank(data, size)` (R58). -/
def mountFixedBank (data : List Byte) (s : State) : Except MountError State := mountBank Config.fixedBankBase data s

/-- `mountSwitchableBank(data, size)` (R58). -/
def mountSwitchableBank (data : List Byte) (s : State) : Except MountError State :=
  mountBank Config.switchBankBase data s

/-! ## External events -/

/-- What an external agent can do between two steps (R66, R351). -/
inductive EnvEvent
  /-- a write to memory by a peripheral -/
  | write (address : Word) (v : Byte)
  /-- `RUN <- Running` -/
  | wake
  /-- `IME <- b` -/
  | setIme (v : Bool)
  deriving DecidableEq, Repr

/-- The effect of one event. A peripheral's write reaches only the region at and above `ROM_BOUNDARY` (I11); `Wake` has no effect
when the core is running (D19). Neither `Wake` nor `SetIME` changes any register, flag, `PC`, `SP` or memory (R351). DESIGN CHOICE
where the faulted mark is set: past a fatal fault only reset is defined (R380), and the model lets an event act as on a live machine
and keeps the mark (log 17). -/
def applyEvent (s : State) : EnvEvent → State
  | .write address v =>
    if address.toNat < Config.romBoundary then s else { s with mem := s.mem.write address.toNat v }
  | .wake => { s with run := .running }
  | .setIme v => { s with ime := v }

/-- `Env` between two steps, as a list of events in order; the default is the empty list (R66, D15). -/
def applyEnv : List EnvEvent → State → State
  | [], s => s
  | ev :: evs, s => applyEnv evs (applyEvent s ev)

/-! ## The host loop -/

/-- The state after a fatal fault: the faulted mark is set (R33), and everything else is the free value `Config.afterFault` (R343, D14,
I8; log 6). -/
def State.afterFault (s : State) : State := { Config.afterFault s with faulted := true }

/-- One tick: a step of the core, then the environment (R383). A fatal fault ends the run: the environment does not act, and nothing
but the mark is known of the state (R343, R384). DESIGN CHOICE: a tick of a machine that has faulted before changes nothing (log 17). -/
def tick (env : List EnvEvent) (s : State) : State :=
  match step s with
  | .next t => applyEnv env t
  | .fault _ => s.afterFault
  | .refused _ => s

/-- A run: one tick for each list of events (R383). -/
def runTicks : List (List EnvEvent) → State → State
  | [], s => s
  | env :: rest, s => runTicks rest (tick env s)

end Sys2Proof.Machine
end

