-- ==== Sys2Proof/Safety.lean ====
section
/-! DEFINITION. What counts as a legal state and as a safe run, in the words the statements use. -/

namespace Sys2Proof.Machine

/-- Bits 3:0 of `F` are zero (10_state.md R22). -/
def State.flagsLegal (s : State) : Bool := s.f &&& 0x0F == 0x00

/-- A state the machine can hold: the low nibble of `F` is zero (R22) and the memory list is in its canonical form. -/
def State.legal (s : State) : Bool := s.flagsLegal && s.mem.wf

/-- The state of a running core: not asleep and not past a fatal fault. -/
def State.active (s : State) : Prop := s.run = .running ∧ s.faulted = false

/-- A step that does not end in a fault or a refusal (00_scope.md R8, outcomes (a) and (b)). -/
def safeStep (s : State) : Prop := ∃ t, step s = .next t

/-- The read-only windows of two states hold the same bytes (20_memory.md R51, R54). -/
def romKept (s t : State) : Prop := ∀ a : Word, a.toNat < 0x8000 → t.read8 a = s.read8 a

end Sys2Proof.Machine
end

