-- ==== Sys2Proof/WellFormed.lean ====
section
/-! DEFINITION. Which terms of `Instr` are instructions a byte stream can hold. -/

namespace Sys2Proof

/-- Every inline operand has exactly its width by its type (30_encoding.md R100), so one check is left: the base-table entry
0xCB is no instruction of its own ("has no operation of its own and is never performed", R92). -/
def Instr.wellFormed (i : Instr) : Bool := decide (i ≠ .prefixCb)

end Sys2Proof
end

