-- ==== Sys2Proof/Certificates/Slice0/Obligations.lean ====
section
/-! DEFINITION. The statements for the provers. First the words they are written in (`Sys2Proof.Cert`): opcode indices, and what a
step leaves unchanged, read through the registers, the flags and `read8` (one byte of memory at any of the 65536 addresses). -/

namespace Sys2Proof.Cert

open Machine

/-! ## Indices of 30_encoding.md, written out once more -/

/-- The index of a register in `r8` (R95). -/
def regIndex : Reg8 → Byte
  | .b => 0
  | .c => 1
  | .d => 2
  | .e => 3
  | .h => 4
  | .l => 5
  | .a => 7

/-- The index of an operand in `r8` (R95). -/
def operandIndex : Operand8 → Byte
  | .reg r => regIndex r
  | .atHl => 6

/-- The index of a pair in `r16` (R96). -/
def pairIndex : Reg16 → Byte
  | .bc => 0
  | .de => 1
  | .hl => 2
  | .sp => 3

/-- The index of a pair in `r16stk` (R96). -/
def stackIndex : StackPair → Byte
  | .bc => 0
  | .de => 1
  | .hl => 2
  | .af => 3

/-- The index of a condition (R97). -/
def condIndex : Cond → Byte
  | .nz => 0
  | .z => 1
  | .nc => 2
  | .c => 3

/-- The index of an ALU operation (R98). -/
def aluIndex : AluOp → Byte
  | .add => 0
  | .adc => 1
  | .sub => 2
  | .sbc => 3
  | .and => 4
  | .xor => 5
  | .or => 6
  | .cp => 7

/-- The index of a rotate or shift (R99). -/
def rotIndex : RotOp → Byte
  | .rlc => 0
  | .rrc => 1
  | .rl => 2
  | .rr => 3
  | .sla => 4
  | .sra => 5
  | .swap => 6
  | .srl => 7

/-- A bit number or restart number as a byte. -/
def numIndex (b : Fin 8) : Byte := BitVec.ofNat 8 b.val

/-- A condition holds (R97, R307). -/
def condTrue (cc : Cond) (s : State) : Prop :=
  match cc with
  | .nz => s.fZ = false
  | .z => s.fZ = true
  | .nc => s.fC = false
  | .c => s.fC = true

/-! ## Encodings and costs -/

/-- The instruction is written as these bytes, and these bytes, whatever follows them, are read as the instruction. -/
def codedAs (i : Instr) (bytes : List Byte) : Prop :=
  encode i = bytes ∧ ∀ rest : List Byte, decode (bytes ++ rest) = .instr i rest

/-- The length and the cycle cost of an instruction (R93, R108). -/
def costs (i : Instr) (len : Nat) (k : Cost) : Prop := instrLength i = len ∧ instrCost i = k

/-- The three bytes at `PC`, `PC + 1`, `PC + 2` modulo 65536, which hold every instruction (R90, R93). -/
def bytesAt (s : State) : List Byte := [s.read8 s.pc, s.read8 (s.pc + 1), s.read8 (s.pc + 2)]

/-- An opcode with a word operand: at `PC = 0xFFFE` its fetch faults, whatever the operation would do (R56, R341). -/
def wordFetchFaults (op : Byte) : Prop :=
  ∀ s : State, s.active → s.pc = 0xFFFE → s.read8 0xFFFE = op → step s = .fault .fatalBoundsError

/-! ## What is left unchanged -/

/-- Every register of `r8` but those listed, every byte of memory outside those listed, and the faulted mark, are as before. -/
def frame (regs : List Reg8) (stored : List Word) (s t : State) : Prop :=
  (∀ r : Reg8, r ∉ regs → t.reg r = s.reg r) ∧ (∀ x : Word, x ∉ stored → t.read8 x = s.read8 x) ∧ t.faulted = s.faulted

/-- `RUN` and `IME` are as before. -/
def controlKept (s t : State) : Prop := t.run = s.run ∧ t.ime = s.ime

/-- `RUN`, `IME` and `SP` are as before and `PC` has moved on by the length. -/
def plainEnd (len : Word) (s t : State) : Prop := controlKept s t ∧ t.sp = s.sp ∧ t.pc = s.pc + len

/-- The four flags are these, and bits 3:0 of `F` are zero (R22). -/
def flagsAre (z n h c : Prop) (t : State) : Prop :=
  (t.fZ = true ↔ z) ∧ (t.fN = true ↔ n) ∧ (t.fH = true ↔ h) ∧ (t.fC = true ↔ c) ∧ t.flagsLegal = true

/-! ## Operands -/

/-- The two bytes of a word in numbers. -/
def isWord (w : Word) (hi lo : Byte) : Prop := w.toNat = hi.toNat * 256 + lo.toNat

/-- The operand can be written: a register always, `(HL)` when `HL` is at or above 0x8000. -/
def writable (s : State) (o : Operand8) : Prop := o = .atHl → 0x8000 ≤ s.hl.toNat

/-- The registers that writing the operand changes. -/
def writtenRegs : Operand8 → List Reg8
  | .reg r => [r]
  | .atHl => []

/-- The bytes that writing the operand changes. -/
def writtenBytes (s : State) : Operand8 → List Word
  | .reg _ => []
  | .atHl => [s.hl]

/-- What the operand holds after the instruction, `(HL)` at the address that `HL` had before. -/
def operandAfter (s t : State) : Operand8 → Byte
  | .reg r => t.reg r
  | .atHl => t.read8 s.hl

/-- A cost that depends on whether the operand is a register or `(HL)`. -/
def operandCost (o : Operand8) (reg mem : Nat) : Cost :=
  match o with
  | .reg _ => .fixed reg
  | .atHl => .fixed mem

/-- The registers of a pair; `SP` has none. -/
def pairRegs : Reg16 → List Reg8
  | .bc => [.b, .c]
  | .de => [.d, .e]
  | .hl => [.h, .l]
  | .sp => []

/-- A store of one byte at `address`: it faults below 0x8000, and else puts the byte there and moves on. -/
def storesByte (i : Instr) (address : Word) (v : Byte) (len : Word) (s : State) : Prop :=
  (0x8000 ≤ address.toNat → s.legal = true →
    ∃ t, exec i s = .next t ∧ t.read8 address = v ∧ frame [] [address] s t ∧ t.f = s.f ∧ plainEnd len s t) ∧
  (address.toNat < 0x8000 → exec i s = .fault .fatalWriteProtectionError)

/-- A load of `A`: `A` is the value, nothing else but `PC` changes. -/
def loadsA (i : Instr) (v : Byte) (len : Word) (s : State) : Prop :=
  ∃ t, exec i s = .next t ∧ t.a = v ∧ frame [.a] [] s t ∧ t.f = s.f ∧ plainEnd len s t

/-- The word `v` lies on the stack of `t` below where the stack of `s` ended: low byte at the new `SP` (R170). -/
def pushed (v : Word) (s t : State) : Prop :=
  t.sp = s.sp - 2 ∧ isWord v (t.read8 (s.sp - 1)) (t.read8 (s.sp - 2))

/-- A push at this `SP` is legal: the word lies in the writable region and inside the address space (R170). -/
def canPush (s : State) : Prop := 0x8000 ≤ (s.sp - 2).toNat ∧ s.sp ≠ 0x0001

/-- The two faults of a push (R170). -/
def pushFaults (i : Instr) (s : State) : Prop :=
  ((s.sp - 2).toNat < 0x8000 → exec i s = .fault .fatalWriteProtectionError) ∧
  (s.sp = 0x0001 → exec i s = .fault .fatalBoundsError)

/-- A call to `target` that returns to `next` (R305, R306, R311). -/
def calls (i : Instr) (target next : Word) (s : State) : Prop :=
  (canPush s → s.legal = true →
    ∃ t, exec i s = .next t ∧ t.pc = target ∧ pushed next s t ∧ frame [] [s.sp - 2, s.sp - 1] s t ∧ t.f = s.f ∧
      controlKept s t) ∧
  pushFaults i s

/-- A return: `PC` is the word at `SP`, `SP` moves up by two; `IME` ends as `ime` (R308 to R310). -/
def returns (i : Instr) (ime : Bool) (s : State) : Prop :=
  (s.sp ≠ 0xFFFF →
    ∃ t, exec i s = .next t ∧ isWord t.pc (s.read8 (s.sp + 1)) (s.read8 s.sp) ∧ t.sp = s.sp + 2 ∧ frame [] [] s t ∧
      t.f = s.f ∧ t.run = s.run ∧ t.ime = ime) ∧
  (s.sp = 0xFFFF → exec i s = .fault .fatalBoundsError)

/-- Nothing but `PC` changes, which becomes `target`. -/
def onlyPc (i : Instr) (target : Word) (s : State) : Prop :=
  ∃ t, exec i s = .next t ∧ t.pc = target ∧ frame [] [] s t ∧ t.f = s.f ∧ t.sp = s.sp ∧ controlKept s t

/-! ## The ALU forms -/

/-- The encodings of one ALU operation on a register, on `(HL)` and on an immediate byte (R98, R101, R108). -/
def aluCoded (op : AluOp) : Prop :=
  (∀ o : Operand8, codedAs (Forms.alu op o) [0x80 + 8 * aluIndex op + operandIndex o] ∧
    costs (Forms.alu op o) 1 (operandCost o 4 8)) ∧
  (∀ n8 : Byte, codedAs (Forms.aluImm op n8) [0xC6 + 8 * aluIndex op, n8] ∧ costs (Forms.aluImm op n8) 2 (.fixed 8))

/-- One ALU operation, in each of its forms, completes and has this effect, given the operand and the length. -/
def aluDoes (op : AluOp) (effect : Byte → State → State → Prop) : Prop :=
  ∀ s : State,
    (∀ o : Operand8, ∃ t, exec (Forms.alu op o) s = .next t ∧ effect (s.operand o) s t ∧ plainEnd 1 s t) ∧
    (∀ n8 : Byte, ∃ t, exec (Forms.aluImm op n8) s = .next t ∧ effect n8 s t ∧ plainEnd 2 s t)

/-! ## The rotate forms -/

/-- The encoding of one rotate or shift of the extended table (R99, R102, R108). -/
def rotCoded (op : RotOp) : Prop :=
  ∀ o : Operand8, codedAs (Forms.rot op o) [0xCB, 8 * rotIndex op + operandIndex o] ∧
    costs (Forms.rot op o) 2 (operandCost o 8 16)

/-- One rotate or shift of the extended table: `r` and `c` give the result and the carry out from the operand and the old carry
as numbers (section 3 of 44_rotate_shift_bit.md). -/
def rotDoes (op : RotOp) (r c : Nat → Nat → Nat) : Prop :=
  ∀ (o : Operand8) (s : State),
    (writable s o → s.legal = true →
      ∃ t, exec (Forms.rot op o) s = .next t ∧
        (operandAfter s t o).toNat = r (s.operand o).toNat s.fC.toNat ∧
        flagsAre (r (s.operand o).toNat s.fC.toNat = 0) False False (c (s.operand o).toNat s.fC.toNat = 1) t ∧
        frame (writtenRegs o) (writtenBytes s o) s t ∧ plainEnd 2 s t) ∧
    (o = .atHl → s.hl.toNat < 0x8000 → exec (Forms.rot op o) s = .fault .fatalWriteProtectionError)

/-- A rotate of the accumulator: as above on `A`, but `fZ` is always cleared (R250 to R253). -/
def accRotDoes (i : Instr) (r c : Nat → Nat → Nat) : Prop :=
  ∀ s : State, ∃ t, exec i s = .next t ∧ t.a.toNat = r s.a.toNat s.fC.toNat ∧
    flagsAre False False False (c s.a.toNat s.fC.toNat = 1) t ∧ frame [.a] [] s t ∧ plainEnd 1 s t

/-! ## Which instruction sets the program counter -/

/-- The instruction sets `PC` itself in this state: a jump, call, return or restart, the conditional ones when taken (R90, D18). -/
def transfersControl (i : Instr) (s : State) : Prop :=
  (∃ a16, i = .jpA16 a16) ∨ i = .jpHl ∨ (∃ e8, i = .jrE8 e8) ∨ (∃ a16, i = .callA16 a16) ∨ i = .ret ∨ i = .reti ∨
  (∃ k, i = Forms.rst k) ∨ (∃ cc a16, condTrue cc s ∧ i = Forms.jp cc a16) ∨
  (∃ cc e8, condTrue cc s ∧ i = Forms.jr cc e8) ∨ (∃ cc a16, condTrue cc s ∧ i = Forms.call cc a16) ∨
  (∃ cc, condTrue cc s ∧ i = Forms.ret cc)

/-! ## Two runs that differ in `IME` -/

/-- Two outcomes are the same but for `IME`. -/
def sameButIme : Result → Result → Prop
  | .next t, .next u => { t with ime := u.ime } = u
  | .fault x, .fault y => x = y
  | .refused x, .refused y => x = y
  | _, _ => False

/-! ## Decimal numbers -/

/-- A number below 100 as two packed decimal digits. -/
def bcd (n : Nat) : Byte := BitVec.ofNat 8 (n / 10 * 16 + n % 10)

end Sys2Proof.Cert

open Sys2Proof Sys2Proof.Machine Sys2Proof.Cert

/-! ## The machine as a whole -/

/-- 10_state.md §7 and 70_reset_and_hazards.md R380, R381: what reset leaves, whatever went before. `RUN` and `IME` are the spec's
decision D8 (log 1). The state is legal. -/
def Obligations.ResetLeaves : Prop :=
  ∀ s : State,
    (∀ r : Reg8, (hostReset s).reg r = 0x00) ∧ (hostReset s).f = 0x00 ∧ (hostReset s).sp = 0x0000 ∧
    (hostReset s).pc = 0x0000 ∧ (∀ x : Word, (hostReset s).read8 x = 0x00) ∧ (hostReset s).faulted = false ∧
    (hostReset s).run = .running ∧ (hostReset s).ime = false ∧ (hostReset s).legal = true ∧ hostReset s = State.reset

/-- 30_encoding.md §1 (the step contract): when the bytes at `PC` decode to an instruction, a step of a running core is `exec` of
that instruction in that state; a word operand at 0xFFFF faults first (the spec's decisions D5 and D23,
logs 9 and 14). -/
def Obligations.StepRunsDecoded : Prop :=
  ∀ (s : State) (i : Instr) (rest : List Byte), s.active → decode (bytesAt s) = .instr i rest →
    (¬(instrLength i = 3 ∧ s.pc = 0xFFFE) → step s = exec i s) ∧
    (instrLength i = 3 ∧ s.pc = 0xFFFE → step s = .fault .fatalBoundsError)

/-- 46_system.md R325: in `LowPower` a step changes nothing, cannot fault whatever `PC` holds, and reports 0 cycles; after `Wake` the
next step fetches at the unchanged `PC`. -/
def Obligations.IdleStep : Prop :=
  ∀ s : State, s.run = .lowPower → s.faulted = false →
    step s = .next s ∧ stepCycles s = some 0 ∧ (applyEvent s .wake).active ∧ (applyEvent s .wake).pc = s.pc ∧
    ∀ (i : Instr) (rest : List Byte), decode (bytesAt s) = .instr i rest → ¬(instrLength i = 3 ∧ s.pc = 0xFFFE) →
      step (applyEvent s .wake) = exec i { s with run := .running }

/-- 20_memory.md R56, R70 and 60_exceptions.md R341, R342: for EVERY instruction, `exec` completes exactly when the lists of those
rules give no fault, and otherwise ends with the fault they give. No instruction is refused. The bounds fault is the spec's decision
D5 (log 9); for the table entry 0xCB the model's choice of log 4 applies. -/
def Obligations.ExecOutcome : Prop :=
  ∀ (i : Instr) (s : State),
    (execFault i s = none → ∃ t, exec i s = .next t) ∧ (∀ x, execFault i s = some x → exec i s = .fault x)

/-- 00_scope.md §4 and 60_exceptions.md §2: a step of a running core has one of the outcomes the spec names, the fault of the
operand fetch before any fault of the operation (D5, D23, logs 9 and 14); and after a fatal fault no step is defined (D14, log 6). -/
def Obligations.StepOutcome : Prop :=
  (∀ s : State, s.active → ∃ i rest, decode (bytesAt s) = .instr i rest ∧
    (instrLength i = 3 ∧ s.pc = 0xFFFE → step s = .fault .fatalBoundsError) ∧
    (¬(instrLength i = 3 ∧ s.pc = 0xFFFE) → execFault i s = none → ∃ t, step s = .next t) ∧
    (¬(instrLength i = 3 ∧ s.pc = 0xFFFE) → ∀ x, execFault i s = some x → step s = .fault x)) ∧
  (∀ s : State, s.faulted = true → step s = .refused .stepAfterFatalFault)

/-- 20_memory.md §3 and §7: EVERY instruction leaves every byte of memory alone but the bytes at the addresses that
`storedAddresses` computes from the state before. -/
def Obligations.MemoryFrame : Prop :=
  ∀ (i : Instr) (s t : State), exec i s = .next t → ∀ x : Word, x ∉ storedAddresses i s → t.read8 x = s.read8 x

/-- 20_memory.md §1 and §3: no step changes a byte below 0x8000. -/
def Obligations.RomUnchanged : Prop := ∀ s t : State, step s = .next t → romKept s t

/-- 10_state.md R22 and the canonical form of memory: every step from a legal state gives a legal state. -/
def Obligations.StepKeepsLegal : Prop := ∀ s t : State, s.legal = true → step s = .next t → t.legal = true

/-- Events, mounts and ticks keep the state legal; so does every run of the host loop that has met no fatal fault (what a fault leaves
is not defined, R343). That events and mounts act on a machine past a fatal fault as on a live one is the model's choice (log 17). -/
def Obligations.HostKeepsLegal : Prop :=
  (∀ (s : State) (ev : EnvEvent), s.legal = true → (applyEvent s ev).legal = true) ∧
  (∀ (s t : State) (data : List Byte), s.legal = true →
    (mountFixedBank data s = .ok t ∨ mountSwitchableBank data s = .ok t) → t.legal = true) ∧
  (∀ (s : State) (run : List (List EnvEvent)), s.legal = true → (runTicks run s).faulted = false →
    (runTicks run s).legal = true)

/-- 30_encoding.md §1 step 5: an instruction that does not set `PC` itself moves it on by its length, modulo 65536 (the
spec's decisions D6 and D18, logs 9 and 14). -/
def Obligations.DefaultAdvance : Prop :=
  ∀ (i : Instr) (s t : State), i.wellFormed = true → ¬transfersControl i s → exec i s = .next t →
    t.pc = s.pc + BitVec.ofNat 16 (instrLength i)

/-- 60_exceptions.md R350: what writes `IME`, and that nothing inside the core reads it: two steps from states that differ in `IME`
alone have outcomes that differ in `IME` alone. -/
def Obligations.ImeIsNeverRead : Prop :=
  (∀ (s : State) (b : Bool), sameButIme (step s) (step { s with ime := b })) ∧
  (∀ (i : Instr) (s t : State), exec i s = .next t →
    t.ime = if i = .ei ∨ i = .reti then true else if i = .di then false else s.ime) ∧
  (∀ (s : State) (b : Bool), s.faulted = false → (applyEvent s (.setIme b)).ime = b) ∧ (State.reset).ime = false

/-- 60_exceptions.md §4 and §5: only HALT and STOP set `RUN <- LowPower`, only `Wake` sets it back, and neither `Wake` nor `SetIME`
changes anything else. A peripheral's write changes one byte at or above 0x8000 (D19, I11, log 7). A sleeping core that no event wakes
stays as it is for ever. That events act on a machine past a fatal fault as on a live one is the model's choice (log 17). -/
def Obligations.RunStateAndEvents : Prop :=
  (∀ (i : Instr) (s t : State), exec i s = .next t → t.run = if i = .halt ∨ i = .stop then .lowPower else s.run) ∧
  (∀ s : State, applyEvent s .wake = { s with run := .running }) ∧
  (∀ (s : State) (b : Bool), applyEvent s (.setIme b) = { s with ime := b }) ∧
  (∀ (s : State) (address x : Word) (v : Byte), s.legal = true →
    (applyEvent s (.write address v)).read8 x = if x = address ∧ 0x8000 ≤ address.toNat then v else s.read8 x) ∧
  (∀ (s : State) (address : Word) (v : Byte),
    applyEvent s (.write address v) = { s with mem := (applyEvent s (.write address v)).mem }) ∧
  (∀ (s : State) (n : Nat), s.run = .lowPower → s.faulted = false → runTicks (List.replicate n []) s = s)

/-- 10_state.md §6, 60_exceptions.md §2 and 70_reset_and_hazards.md §2: a tick is the step of the core and then the environment; the
faulted mark is set exactly when the step ends in a fatal fault, stays set whatever ticks, events and mounts follow, and goes only with
a reset; while it is set no step runs. That events and mounts past a fault act as on a live machine, and that a tick there changes
nothing, is the model's choice (log 17); what the fault leaves beside the mark is not defined, and nothing is said of it (log 6). -/
def Obligations.FaultEndsTheRun : Prop :=
  (∀ (s t : State) (env : List EnvEvent), step s = .next t → tick env s = applyEnv env t) ∧
  (∀ (s : State) (env : List EnvEvent), s.faulted = false →
    ((tick env s).faulted = true ↔ ∃ x, step s = .fault x)) ∧
  (∀ (s : State) (x : Fault) (env : List EnvEvent) (run : List (List EnvEvent)), step s = .fault x →
    (runTicks (env :: run) s).faulted = true ∧
    step (runTicks (env :: run) s) = .refused .stepAfterFatalFault ∧
    hostReset (runTicks (env :: run) s) = State.reset) ∧
  (∀ (s : State) (env : List EnvEvent), s.faulted = true → tick env s = s ∧ (applyEnv env s).faulted = true) ∧
  (∀ (s : State) (ev : EnvEvent), s.faulted = true →
    applyEvent s ev = { applyEvent { s with faulted := false } ev with faulted := true }) ∧
  (∀ (s : State) (data : List Byte), s.faulted = true →
    (∀ t, mountFixedBank data { s with faulted := false } = .ok t →
      mountFixedBank data s = .ok { t with faulted := true }) ∧
    (∀ t, mountSwitchableBank data { s with faulted := false } = .ok t →
      mountSwitchableBank data s = .ok { t with faulted := true }) ∧
    (data.length > 0x4000 →
      mountFixedBank data s = .error .invalidBankSize ∧ mountSwitchableBank data s = .error .invalidBankSize))

/-- 60_exceptions.md R344: a mount of more than 0x4000 bytes reports `InvalidBankSize` and yields no state; 0x4000 bytes are legal,
and no bytes copy nothing. -/
def Obligations.MountSizes : Prop :=
  ∀ (data : List Byte) (s : State), s.faulted = false →
    (data.length > 0x4000 →
      mountFixedBank data s = .error .invalidBankSize ∧ mountSwitchableBank data s = .error .invalidBankSize) ∧
    (data.length ≤ 0x4000 → (∃ t, mountFixedBank data s = .ok t) ∧ ∃ t, mountSwitchableBank data s = .ok t) ∧
    mountFixedBank [] s = .ok s ∧ mountSwitchableBank [] s = .ok s

/-- 20_memory.md §4: a mount puts its bytes at 0x0000 or 0x4000 on, write protection or not, and changes nothing else; the rest of
the window keeps its value (the spec's decision D20, log 13). That a mount acts on a machine past a fatal fault as on a live one is the
model's choice (log 17). -/
def Obligations.MountCopies : Prop :=
  ∀ (data : List Byte) (s t : State), s.legal = true →
    (mountFixedBank data s = .ok t →
      (∀ x : Word, t.read8 x = if x.toNat < data.length then data.getD x.toNat 0x00 else s.read8 x) ∧
      t = { s with mem := t.mem }) ∧
    (mountSwitchableBank data s = .ok t →
      (∀ x : Word, t.read8 x =
        if 0x4000 ≤ x.toNat ∧ x.toNat - 0x4000 < data.length then data.getD (x.toNat - 0x4000) 0x00 else s.read8 x) ∧
      t = { s with mem := t.mem })

/-- 20_memory.md R53 and R54: the little-endian word read with its fault at 0xFFFF, and the byte write with its fault below 0x8000. -/
def Obligations.ReadWordAndWriteByte : Prop :=
  ∀ (s : State) (address : Word),
    (address ≠ 0xFFFF → ∃ w : Word, s.read16 address = Except.ok w ∧ isWord w (s.read8 (address + 1)) (s.read8 address)) ∧
    (address = 0xFFFF → s.read16 address = .error .fatalBoundsError) ∧
    ∀ v : Byte,
      (address.toNat < 0x8000 → s.write8 address v = .fault .fatalWriteProtectionError) ∧
      (0x8000 ≤ address.toNat → s.legal = true →
        ∃ t, s.write8 address v = .next t ∧ (∀ x : Word, t.read8 x = if x = address then v else s.read8 x) ∧
          t = { s with mem := t.mem })

/-- 20_memory.md §3, §4 and §6: the word write with its two faults (D5, log 9), a word read back after it and each of its bytes, and the
read-modify-write helpers. -/
def Obligations.WriteWordAndHelpers : Prop :=
  ∀ (s : State) (address w : Word),
    (address.toNat < 0x8000 → s.write16 address w = .fault .fatalWriteProtectionError) ∧
    (address = 0xFFFF → s.write16 address w = .fault .fatalBoundsError) ∧
    (0x8000 ≤ address.toNat → address ≠ 0xFFFF → s.legal = true →
      ∃ t, s.write16 address w = .next t ∧ t.read16 address = .ok w ∧ t.read8 address = loByte w ∧
        t.read8 (address + 1) = hiByte w ∧ (∀ x : Word, x ∉ [address, address + 1] → t.read8 x = s.read8 x) ∧
        t = { s with mem := t.mem }) ∧
    s.increment8 address = s.write8 address (s.read8 address + 1) ∧
    s.decrement8 address = s.write8 address (s.read8 address - 1) ∧
    (∀ v, s.read16 address = .ok v →
      s.increment16 address = s.write16 address (v + 1) ∧ s.decrement16 address = s.write16 address (v - 1)) ∧
    (∀ x, s.read16 address = .error x → s.increment16 address = .fault x ∧ s.decrement16 address = .fault x)

/-- 10_state.md §1 and §2 (the spec's decisions D2 and D3, log 15): the flag byte from its four flags, and the pair views both ways. -/
def Obligations.PairViewsAndFlagByte : Prop :=
  ∀ s : State,
    (s.flagsLegal = true → s.f.toNat = s.fZ.toNat * 128 + s.fN.toNat * 64 + s.fH.toNat * 32 + s.fC.toNat * 16) ∧
    isWord s.bc s.b s.c ∧ isWord s.de s.d s.e ∧ isWord s.hl s.h s.l ∧ isWord s.af s.a s.f ∧
    ∀ v : Word, isWord v (s.setBc v).b (s.setBc v).c ∧ isWord v (s.setDe v).d (s.setDe v).e ∧
      isWord v (s.setHl v).h (s.setHl v).l ∧ (s.setAf v).a.toNat = v.toNat / 256 ∧
      (s.setAf v).f.toNat = v.toNat % 256 / 16 * 16 ∧ (s.setAf v).flagsLegal = true

/-- 41_load16_stack.md R170 and R171: the two stack primitives, with their faults, and that a pop right after a push gives the word
and the stack pointer back. -/
def Obligations.StackPrimitives : Prop :=
  ∀ (s : State) (v : Word),
    ((s.sp - 2).toNat < 0x8000 → s.push16 v = .fault .fatalWriteProtectionError) ∧
    (s.sp = 0x0001 → s.push16 v = .fault .fatalBoundsError) ∧
    (canPush s → s.legal = true →
      ∃ t, s.push16 v = .next t ∧ pushed v s t ∧ (∀ x : Word, x ∉ [s.sp - 2, s.sp - 1] → t.read8 x = s.read8 x) ∧
        t = { s with sp := t.sp, mem := t.mem } ∧
        ∀ k : Word → State → Result, t.withPop16 k = k v { t with sp := s.sp }) ∧
    ∀ k : Word → State → Result,
      (s.sp = 0xFFFF → s.withPop16 k = .fault .fatalBoundsError) ∧
      (s.sp ≠ 0xFFFF → ∃ w, isWord w (s.read8 (s.sp + 1)) (s.read8 s.sp) ∧ s.withPop16 k = k w { s with sp := s.sp + 2 })

/-! ## Decoding and encoding -/

/-- Encoding any well-formed instruction, with every operand at every value, and decoding gives it back and eats exactly its bytes. -/
def Obligations.DecodeOfEncode : Prop :=
  ∀ (i : Instr) (rest : List Byte), i.wellFormed = true → decode (encode i ++ rest) = .instr i rest

/-- What is decoded is well formed, and encoding it gives the bytes back: no bit of them is lost and no two byte sequences mean the
same instruction. STOP's padding byte is the one exception: any value is read as 0x00 (R322). -/
def Obligations.EncodeOfDecode : Prop :=
  ∀ (bytes rest : List Byte) (i : Instr), decode bytes = .instr i rest →
    i.wellFormed = true ∧ (i ≠ .stop → bytes = encode i ++ rest) ∧
    (i = .stop → (bytes = [0x10] ∧ rest = []) ∨ ∃ pad, bytes = [0x10, pad] ++ rest)

/-- A few encodings written out from 30_encoding.md. -/
def Obligations.DecodeSamples : Prop :=
  decode [0b00000001, 0x34, 0x12] = .instr (.ldBcN16 0x1234) [] ∧ decode [0b01000001] = .instr .ldBC [] ∧
  decode [0b01110110] = .instr .halt [] ∧ decode [0b10001110] = .instr .adcAAtHl [] ∧
  decode [0b11111000, 0xFE] = .instr (.ldHlSpE8 0xFE) [] ∧ decode [0b00101000, 0x05] = .instr (.jrZE8 0x05) [] ∧
  decode [0b11010100, 0x00, 0xC1] = .instr (.callNcA16 0xC100) [] ∧ decode [0b11101111] = .instr .rst28 [] ∧
  decode [0xCB, 0b00110110] = .instr .swapAtHl [] ∧ decode [0xCB, 0b01111100] = .instr .bit7H [] ∧
  decode [0xCB, 0xCB] = .instr .set1E [] ∧ decode [0x10, 0x55, 0x00] = .instr .stop [0x00] ∧
  decode [0xDD] = .instr .illegalDD []

/-- 30_encoding.md R109: any bytes decode; the first two fix the instruction's length and, with 0xCB first, the instruction; the
length is 1, 2 or 3. -/
def Obligations.DecodingIsTotal : Prop :=
  ∀ b0 b1 : Byte, ∃ len : Nat, 1 ≤ len ∧ len ≤ 3 ∧
    (∀ b2 : Byte, ∃ i rest, decode [b0, b1, b2] = .instr i rest ∧ i.wellFormed = true ∧ instrLength i = len ∧
      rest = [b0, b1, b2].drop len ∧ (encode i).head? = some b0) ∧
    (b0 = 0xCB → ∃ i, encode i = [b0, b1] ∧ ∀ rest, decode ([b0, b1] ++ rest) = .instr i rest)

/-- 30_encoding.md §1 (the prefix): no bytes decode to the base-table entry 0xCB. The model's choice for that entry (log 4): executing it
does what the two-byte instruction with the byte after `PC` does. -/
def Obligations.ExtendedEntry : Prop :=
  (∀ bytes rest : List Byte, decode bytes ≠ .instr .prefixCb rest) ∧
  ∀ s : State, ∃ i, decode [0xCB, s.read8 (s.pc + 1)] = .instr i [] ∧ i.wellFormed = true ∧ exec .prefixCb s = exec i s

/-- 30_encoding.md §8 and 70_reset_and_hazards.md §4: what a completed step reports, the condition choosing between two costs; every cost
is a multiple of 4 from 4 to 24, the taken one the higher. The cost table is the spec's general knowledge (D16, log 12). -/
def Obligations.CyclesReported : Prop :=
  (∀ (s t : State) (i : Instr) (rest : List Byte), s.active → decode (bytesAt s) = .instr i rest → step s = .next t →
    (∀ n, instrCost i = .fixed n → stepCycles s = some n) ∧
    (∀ cc k u, instrCost i = .conditional cc k u →
      (condTrue cc s → stepCycles s = some k) ∧ (¬condTrue cc s → stepCycles s = some u))) ∧
  ∀ i : Instr,
    (∀ n, instrCost i = .fixed n → n % 4 = 0 ∧ 4 ≤ n ∧ n ≤ 24) ∧
    (∀ cc k u, instrCost i = .conditional cc k u → k % 4 = 0 ∧ u % 4 = 0 ∧ 4 ≤ u ∧ u < k ∧ k ≤ 24)

/-! ## 8-bit loads and stores -/

/-- 40_load8.md R130, R131 and R132: from a register, from an immediate byte, and from the byte at the old `HL` (also when `H` or `L` is
loaded). -/
def Obligations.LoadRegister : Prop :=
  ∀ (r : Reg8) (s : State),
    (∀ r' : Reg8,
      codedAs (Forms.ldRegReg r r') [0x40 + 8 * regIndex r + regIndex r'] ∧ costs (Forms.ldRegReg r r') 1 (.fixed 4) ∧
      ∃ t, exec (Forms.ldRegReg r r') s = .next t ∧ t.reg r = s.reg r' ∧ frame [r] [] s t ∧ t.f = s.f ∧
        plainEnd 1 s t) ∧
    (∀ n8 : Byte,
      codedAs (Forms.ldRegImm r n8) [0x06 + 8 * regIndex r, n8] ∧ costs (Forms.ldRegImm r n8) 2 (.fixed 8) ∧
      ∃ t, exec (Forms.ldRegImm r n8) s = .next t ∧ t.reg r = n8 ∧ frame [r] [] s t ∧ t.f = s.f ∧ plainEnd 2 s t) ∧
    (codedAs (Forms.ldRegAtHl r) [0x46 + 8 * regIndex r] ∧ costs (Forms.ldRegAtHl r) 1 (.fixed 8) ∧
      ∃ t, exec (Forms.ldRegAtHl r) s = .next t ∧ t.reg r = s.read8 s.hl ∧ frame [r] [] s t ∧ t.f = s.f ∧
        plainEnd 1 s t)

/-- 40_load8.md R133 and R134. -/
def Obligations.StoreAtHl : Prop :=
  ∀ s : State,
    (∀ r : Reg8, codedAs (Forms.ldAtHlReg r) [0x70 + regIndex r] ∧ costs (Forms.ldAtHlReg r) 1 (.fixed 8) ∧
      storesByte (Forms.ldAtHlReg r) s.hl (s.reg r) 1 s) ∧
    (∀ n8 : Byte, codedAs (.ldAtHlN8 n8) [0x36, n8] ∧ costs (.ldAtHlN8 n8) 2 (.fixed 12) ∧
      storesByte (.ldAtHlN8 n8) s.hl n8 2 s)

/-- 40_load8.md R135, R136, R139, R141, R143: the loads of `A` from memory. -/
def Obligations.LoadAFromMemory : Prop :=
  ∀ s : State,
    (codedAs .ldAAtBc [0x0A] ∧ costs .ldAAtBc 1 (.fixed 8) ∧ loadsA .ldAAtBc (s.read8 s.bc) 1 s) ∧
    (codedAs .ldAAtDe [0x1A] ∧ costs .ldAAtDe 1 (.fixed 8) ∧ loadsA .ldAAtDe (s.read8 s.de) 1 s) ∧
    (codedAs .ldhAAtC [0xF2] ∧ costs .ldhAAtC 1 (.fixed 8) ∧
      loadsA .ldhAAtC (s.read8 (BitVec.ofNat 16 (0xFF00 + s.c.toNat))) 1 s) ∧
    (∀ a8 : Byte, codedAs (.ldhAAtA8 a8) [0xF0, a8] ∧ costs (.ldhAAtA8 a8) 2 (.fixed 12) ∧
      loadsA (.ldhAAtA8 a8) (s.read8 (BitVec.ofNat 16 (0xFF00 + a8.toNat))) 2 s) ∧
    (∀ a16 : Word, codedAs (.ldAAtA16 a16) [0xFA, loByte a16, hiByte a16] ∧ costs (.ldAAtA16 a16) 3 (.fixed 16) ∧
      loadsA (.ldAAtA16 a16) (s.read8 a16) 3 s) ∧
    wordFetchFaults 0xFA

/-- 40_load8.md R137, R138, R140, R142, R144: the stores of `A` to memory; the high-page ones complete from every state. -/
def Obligations.StoreAToMemory : Prop :=
  ∀ s : State,
    (codedAs .ldAtBcA [0x02] ∧ costs .ldAtBcA 1 (.fixed 8) ∧ storesByte .ldAtBcA s.bc s.a 1 s) ∧
    (codedAs .ldAtDeA [0x12] ∧ costs .ldAtDeA 1 (.fixed 8) ∧ storesByte .ldAtDeA s.de s.a 1 s) ∧
    (codedAs .ldhAtCA [0xE2] ∧ costs .ldhAtCA 1 (.fixed 8) ∧
      storesByte .ldhAtCA (BitVec.ofNat 16 (0xFF00 + s.c.toNat)) s.a 1 s ∧ ∃ t, exec .ldhAtCA s = .next t) ∧
    (∀ a8 : Byte, codedAs (.ldhAtA8A a8) [0xE0, a8] ∧ costs (.ldhAtA8A a8) 2 (.fixed 12) ∧
      storesByte (.ldhAtA8A a8) (BitVec.ofNat 16 (0xFF00 + a8.toNat)) s.a 2 s ∧ ∃ t, exec (.ldhAtA8A a8) s = .next t) ∧
    (∀ a16 : Word, codedAs (.ldAtA16A a16) [0xEA, loByte a16, hiByte a16] ∧ costs (.ldAtA16A a16) 3 (.fixed 16) ∧
      storesByte (.ldAtA16A a16) a16 s.a 3 s) ∧
    wordFetchFaults 0xEA

/-- 40_load8.md R145 to R148: the transfer at the old `HL`, then `HL` up or down by one modulo 65536. -/
def Obligations.LoadStoreAdjustHl : Prop :=
  (codedAs .ldiAtHlA [0x22] ∧ costs .ldiAtHlA 1 (.fixed 8) ∧ codedAs .ldiAAtHl [0x2A] ∧ costs .ldiAAtHl 1 (.fixed 8) ∧
    codedAs .lddAtHlA [0x32] ∧ costs .lddAtHlA 1 (.fixed 8) ∧ codedAs .lddAAtHl [0x3A] ∧ costs .lddAAtHl 1 (.fixed 8)) ∧
  (∀ (s : State) (i : Instr) (delta : Nat), (i = .ldiAAtHl ∧ delta = 1) ∨ (i = .lddAAtHl ∧ delta = 0xFFFF) →
    ∃ t, exec i s = .next t ∧ t.a = s.read8 s.hl ∧ t.hl.toNat = (s.hl.toNat + delta) % 0x10000 ∧
      frame [.a, .h, .l] [] s t ∧ t.f = s.f ∧ plainEnd 1 s t) ∧
  (∀ (s : State) (i : Instr) (delta : Nat), (i = .ldiAtHlA ∧ delta = 1) ∨ (i = .lddAtHlA ∧ delta = 0xFFFF) →
    (0x8000 ≤ s.hl.toNat → s.legal = true →
      ∃ t, exec i s = .next t ∧ t.read8 s.hl = s.a ∧ t.hl.toNat = (s.hl.toNat + delta) % 0x10000 ∧
        frame [.h, .l] [s.hl] s t ∧ t.f = s.f ∧ plainEnd 1 s t) ∧
    (s.hl.toNat < 0x8000 → exec i s = .fault .fatalWriteProtectionError))

/-! ## 16-bit loads and the stack -/

/-- 41_load16_stack.md R172 and R174. -/
def Obligations.LoadPair : Prop :=
  (∀ (p : Reg16) (n16 : Word) (s : State),
    codedAs (Forms.ldPairImm p n16) [0x01 + 16 * pairIndex p, loByte n16, hiByte n16] ∧
    costs (Forms.ldPairImm p n16) 3 (.fixed 12) ∧
    ∃ t, exec (Forms.ldPairImm p n16) s = .next t ∧ t.pair p = n16 ∧ frame (pairRegs p) [] s t ∧ t.f = s.f ∧
      controlKept s t ∧ (p ≠ .sp → t.sp = s.sp) ∧ t.pc = s.pc + 3) ∧
  (∀ p : Reg16, wordFetchFaults (0x01 + 16 * pairIndex p)) ∧
  (∀ s : State, codedAs .ldSpHl [0xF9] ∧ costs .ldSpHl 1 (.fixed 8) ∧
    ∃ t, exec .ldSpHl s = .next t ∧ t.sp = s.hl ∧ frame [] [] s t ∧ t.f = s.f ∧ controlKept s t ∧ t.pc = s.pc + 1)

/-- 41_load16_stack.md R173. -/
def Obligations.StoreSp : Prop :=
  (∀ (a16 : Word) (s : State),
    codedAs (.ldAtA16Sp a16) [0x08, loByte a16, hiByte a16] ∧ costs (.ldAtA16Sp a16) 3 (.fixed 20) ∧
    (0x8000 ≤ a16.toNat → a16 ≠ 0xFFFF → s.legal = true →
      ∃ t, exec (.ldAtA16Sp a16) s = .next t ∧ isWord s.sp (t.read8 (a16 + 1)) (t.read8 a16) ∧
        frame [] [a16, a16 + 1] s t ∧ t.f = s.f ∧ plainEnd 3 s t) ∧
    (a16 = 0xFFFF → exec (.ldAtA16Sp a16) s = .fault .fatalBoundsError) ∧
    (a16.toNat < 0x8000 → exec (.ldAtA16Sp a16) s = .fault .fatalWriteProtectionError)) ∧
  wordFetchFaults 0x08

/-- 41_load16_stack.md R175 and 43_alu16.md R243: `SP` plus a signed byte, with the carries of the unsigned byte addition. -/
def Obligations.SpDisplacement : Prop :=
  ∀ (e8 : Byte) (s : State),
    (codedAs (.ldHlSpE8 e8) [0xF8, e8] ∧ costs (.ldHlSpE8 e8) 2 (.fixed 12) ∧
      ∃ t, exec (.ldHlSpE8 e8) s = .next t ∧ (t.hl.toNat : Int) = ((s.sp.toNat : Int) + e8.toInt) % 0x10000 ∧
        flagsAre False False (s.sp.toNat % 16 + e8.toNat % 16 > 0xF) (s.sp.toNat % 256 + e8.toNat > 0xFF) t ∧
        frame [.h, .l] [] s t ∧ plainEnd 2 s t) ∧
    (codedAs (.addSpE8 e8) [0xE8, e8] ∧ costs (.addSpE8 e8) 2 (.fixed 16) ∧
      ∃ t, exec (.addSpE8 e8) s = .next t ∧ (t.sp.toNat : Int) = ((s.sp.toNat : Int) + e8.toInt) % 0x10000 ∧
        flagsAre False False (s.sp.toNat % 16 + e8.toNat % 16 > 0xF) (s.sp.toNat % 256 + e8.toNat > 0xFF) t ∧
        frame [] [] s t ∧ controlKept s t ∧ t.pc = s.pc + 2)

/-- 41_load16_stack.md R176. -/
def Obligations.PushPair : Prop :=
  ∀ (p : StackPair) (s : State),
    codedAs (Forms.push p) [0xC5 + 16 * stackIndex p] ∧ costs (Forms.push p) 1 (.fixed 16) ∧
    (canPush s → s.legal = true →
      ∃ t, exec (Forms.push p) s = .next t ∧ pushed (s.stackPair p) s t ∧ frame [] [s.sp - 2, s.sp - 1] s t ∧
        t.f = s.f ∧ controlKept s t ∧ t.pc = s.pc + 1 ∧
        (p = .af → t.read8 (s.sp - 1) = s.a ∧ t.read8 (s.sp - 2) = s.f ∧ (t.read8 (s.sp - 2)).toNat % 16 = 0)) ∧
    pushFaults (Forms.push p) s

/-- 41_load16_stack.md R177 and R178. -/
def Obligations.PopPair : Prop :=
  ∀ (p : StackPair) (s : State),
    codedAs (Forms.pop p) [0xC1 + 16 * stackIndex p] ∧ costs (Forms.pop p) 1 (.fixed 12) ∧
    (s.sp ≠ 0xFFFF →
      ∃ t, exec (Forms.pop p) s = .next t ∧ t.sp = s.sp + 2 ∧ controlKept s t ∧ t.pc = s.pc + 1 ∧
        (p = .bc → t.b = s.read8 (s.sp + 1) ∧ t.c = s.read8 s.sp ∧ frame [.b, .c] [] s t ∧ t.f = s.f) ∧
        (p = .de → t.d = s.read8 (s.sp + 1) ∧ t.e = s.read8 s.sp ∧ frame [.d, .e] [] s t ∧ t.f = s.f) ∧
        (p = .hl → t.h = s.read8 (s.sp + 1) ∧ t.l = s.read8 s.sp ∧ frame [.h, .l] [] s t ∧ t.f = s.f) ∧
        (p = .af → t.a = s.read8 (s.sp + 1) ∧ t.f.toNat = (s.read8 s.sp).toNat / 16 * 16 ∧ frame [.a] [] s t ∧
          flagsAre ((s.read8 s.sp).getLsbD 7 = true) ((s.read8 s.sp).getLsbD 6 = true)
            ((s.read8 s.sp).getLsbD 5 = true) ((s.read8 s.sp).getLsbD 4 = true) t)) ∧
    (s.sp = 0xFFFF → exec (Forms.pop p) s = .fault .fatalBoundsError)

/-! ## 8-bit arithmetic and logic -/

/-- 42_alu8.md R190, R198 to R200. -/
def Obligations.AddA : Prop :=
  aluCoded .add ∧ aluDoes .add fun x s t =>
    t.a.toNat = (s.a.toNat + x.toNat) % 256 ∧
    flagsAre (t.a = 0) False (s.a.toNat % 16 + x.toNat % 16 > 0xF) (s.a.toNat + x.toNat > 0xFF) t ∧ frame [.a] [] s t

/-- 42_alu8.md R201 to R203 by the formula of section 1: the carry is folded into the operand first, and both flag tests mask the sum. -/
def Obligations.AdcA : Prop :=
  aluCoded .adc ∧ aluDoes .adc fun x s t =>
    t.a.toNat = (s.a.toNat + (x.toNat + s.fC.toNat)) % 256 ∧
    flagsAre (t.a = 0) False (s.a.toNat % 16 + (x.toNat + s.fC.toNat) % 16 > 0xF)
      (s.a.toNat + (x.toNat + s.fC.toNat) % 256 > 0xFF) t ∧
    frame [.a] [] s t

/-- 42_alu8.md R192, R204 to R206. -/
def Obligations.SubA : Prop :=
  aluCoded .sub ∧ aluDoes .sub fun x s t =>
    (t.a.toNat : Int) = ((s.a.toNat : Int) - x.toNat) % 256 ∧
    flagsAre (t.a = 0) True (s.a.toNat % 16 < x.toNat % 16) (s.a.toNat < x.toNat) t ∧ frame [.a] [] s t

/-- 42_alu8.md §1 and §2 for SBC: `x'` is the exact sum (the spec's decision D9, log 11). -/
def Obligations.SbcA : Prop :=
  aluCoded .sbc ∧ aluDoes .sbc fun x s t =>
    (t.a.toNat : Int) = ((s.a.toNat : Int) - (x.toNat + s.fC.toNat)) % 256 ∧
    flagsAre (t.a = 0) True (s.a.toNat % 16 < (x.toNat + s.fC.toNat) % 16) (s.a.toNat < x.toNat + s.fC.toNat) t ∧
    frame [.a] [] s t

/-- 42_alu8.md R194 to R196, R210 to R218, the result bit by bit. -/
def Obligations.LogicA : Prop :=
  (aluCoded .and ∧ aluDoes .and fun x s t =>
    (∀ b : Nat, t.a.getLsbD b = (s.a.getLsbD b && x.getLsbD b)) ∧ flagsAre (t.a = 0) False True False t ∧
      frame [.a] [] s t) ∧
  (aluCoded .xor ∧ aluDoes .xor fun x s t =>
    (∀ b : Nat, t.a.getLsbD b = (s.a.getLsbD b != x.getLsbD b)) ∧ flagsAre (t.a = 0) False False False t ∧
      frame [.a] [] s t) ∧
  (aluCoded .or ∧ aluDoes .or fun x s t =>
    (∀ b : Nat, t.a.getLsbD b = (s.a.getLsbD b || x.getLsbD b)) ∧ flagsAre (t.a = 0) False False False t ∧
      frame [.a] [] s t)

/-- 42_alu8.md R197, R219 to R221: `A` and every other register are left alone. -/
def Obligations.CompareA : Prop :=
  aluCoded .cp ∧ aluDoes .cp fun x s t =>
    flagsAre (s.a = x) True (s.a.toNat % 16 < x.toNat % 16) (s.a.toNat < x.toNat) t ∧ frame [] [] s t

/-- 42_alu8.md R222 to R227: increment and decrement of a register or of the byte at `HL`; `fC` is kept. -/
def Obligations.IncDecByte : Prop :=
  (∀ o : Operand8,
    codedAs (Forms.inc o) [0x04 + 8 * operandIndex o] ∧ costs (Forms.inc o) 1 (operandCost o 4 12) ∧
    codedAs (Forms.dec o) [0x05 + 8 * operandIndex o] ∧ costs (Forms.dec o) 1 (operandCost o 4 12)) ∧
  ∀ (o : Operand8) (s : State),
    (writable s o → s.legal = true →
      (∃ t, exec (Forms.inc o) s = .next t ∧ (operandAfter s t o).toNat = ((s.operand o).toNat + 1) % 256 ∧
        flagsAre ((s.operand o).toNat = 0xFF) False ((s.operand o).toNat % 16 + 1 > 0xF) (s.fC = true) t ∧
        frame (writtenRegs o) (writtenBytes s o) s t ∧ plainEnd 1 s t) ∧
      (∃ t, exec (Forms.dec o) s = .next t ∧ (operandAfter s t o).toNat = ((s.operand o).toNat + 255) % 256 ∧
        flagsAre ((s.operand o).toNat = 1) True ((s.operand o).toNat % 16 < 1) (s.fC = true) t ∧
        frame (writtenRegs o) (writtenBytes s o) s t ∧ plainEnd 1 s t)) ∧
    (o = .atHl → s.hl.toNat < 0x8000 →
      exec (Forms.inc o) s = .fault .fatalWriteProtectionError ∧ exec (Forms.dec o) s = .fault .fatalWriteProtectionError)

/-- 42_alu8.md R228, written out in numbers. -/
def Obligations.DecimalAdjust : Prop :=
  codedAs .daa [0x27] ∧ costs .daa 1 (.fixed 4) ∧
  ∀ (s : State) (low high : Prop) (adj : Nat),
    (low ↔ s.fH = true ∨ (s.fN = false ∧ s.a.toNat % 16 > 9)) →
    (high ↔ s.fC = true ∨ (s.fN = false ∧ s.a.toNat > 0x99)) →
    ((low → high → adj = 0x66) ∧ (low → ¬high → adj = 0x06) ∧ (¬low → high → adj = 0x60) ∧ (¬low → ¬high → adj = 0)) →
    ∃ t, exec .daa s = .next t ∧
      (s.fN = false → t.a.toNat = (s.a.toNat + adj) % 256) ∧
      (s.fN = true → (t.a.toNat : Int) = ((s.a.toNat : Int) - adj) % 256) ∧
      flagsAre (t.a = 0) (s.fN = true) False high t ∧ frame [.a] [] s t ∧ plainEnd 1 s t

/-- What `DAA` is for (42_alu8.md §5): after adding, or subtracting, two packed decimal numbers it leaves the packed decimal result,
with the decimal carry or borrow in `fC`. -/
def Obligations.DecimalArithmetic : Prop :=
  ∀ (s : State) (m n : Nat), m < 100 → n < 100 → s.a = bcd m → s.b = bcd n →
    (∃ t u, exec .addAB s = .next t ∧ exec .daa t = .next u ∧ u.a = bcd ((m + n) % 100) ∧ (u.fC = true ↔ 100 ≤ m + n)) ∧
    (∃ t u, exec .subB s = .next t ∧ exec .daa t = .next u ∧ u.a = bcd ((m + 100 - n) % 100) ∧ (u.fC = true ↔ m < n))

/-- 42_alu8.md R229 to R231. -/
def Obligations.ComplementAndCarry : Prop :=
  (codedAs .cpl [0x2F] ∧ costs .cpl 1 (.fixed 4) ∧ codedAs .scf [0x37] ∧ costs .scf 1 (.fixed 4) ∧
    codedAs .ccf [0x3F] ∧ costs .ccf 1 (.fixed 4)) ∧
  ∀ s : State,
    (∃ t, exec .cpl s = .next t ∧ t.a.toNat = 255 - s.a.toNat ∧ flagsAre (s.fZ = true) True True (s.fC = true) t ∧
      frame [.a] [] s t ∧ plainEnd 1 s t) ∧
    (∃ t, exec .scf s = .next t ∧ flagsAre (s.fZ = true) False False True t ∧ frame [] [] s t ∧ plainEnd 1 s t) ∧
    (∃ t, exec .ccf s = .next t ∧ flagsAre (s.fZ = true) False False (s.fC = false) t ∧ frame [] [] s t ∧
      plainEnd 1 s t)

/-! ## 16-bit arithmetic -/

/-- 43_alu16.md R240: `fZ` is kept. -/
def Obligations.AddHl : Prop :=
  ∀ (p : Reg16) (s : State),
    codedAs (Forms.addHl p) [0x09 + 16 * pairIndex p] ∧ costs (Forms.addHl p) 1 (.fixed 8) ∧
    ∃ t, exec (Forms.addHl p) s = .next t ∧ t.hl.toNat = (s.hl.toNat + (s.pair p).toNat) % 0x10000 ∧
      flagsAre (s.fZ = true) False (s.hl.toNat % 0x1000 + (s.pair p).toNat % 0x1000 > 0x0FFF)
        (s.hl.toNat + (s.pair p).toNat > 0xFFFF) t ∧
      frame [.h, .l] [] s t ∧ plainEnd 1 s t

/-- 43_alu16.md R241 and R242: no flag changes. -/
def Obligations.IncDecPair : Prop :=
  ∀ (p : Reg16) (s : State),
    (codedAs (Forms.incPair p) [0x03 + 16 * pairIndex p] ∧ costs (Forms.incPair p) 1 (.fixed 8) ∧
      ∃ t, exec (Forms.incPair p) s = .next t ∧ (t.pair p).toNat = ((s.pair p).toNat + 1) % 0x10000 ∧
        frame (pairRegs p) [] s t ∧ (p ≠ .sp → t.sp = s.sp) ∧ t.f = s.f ∧ controlKept s t ∧ t.pc = s.pc + 1) ∧
    (codedAs (Forms.decPair p) [0x0B + 16 * pairIndex p] ∧ costs (Forms.decPair p) 1 (.fixed 8) ∧
      ∃ t, exec (Forms.decPair p) s = .next t ∧ (t.pair p).toNat = ((s.pair p).toNat + 0xFFFF) % 0x10000 ∧
        frame (pairRegs p) [] s t ∧ (p ≠ .sp → t.sp = s.sp) ∧ t.f = s.f ∧ controlKept s t ∧ t.pc = s.pc + 1)

/-! ## Rotates, shifts and bits -/

/-- 44_rotate_shift_bit.md R250 to R253. -/
def Obligations.RotateAccumulator : Prop :=
  (codedAs .rlca [0x07] ∧ costs .rlca 1 (.fixed 4) ∧ accRotDoes .rlca (fun v _ => v * 2 % 256 + v / 128) (fun v _ => v / 128)) ∧
  (codedAs .rrca [0x0F] ∧ costs .rrca 1 (.fixed 4) ∧ accRotDoes .rrca (fun v _ => v / 2 + v % 2 * 128) (fun v _ => v % 2)) ∧
  (codedAs .rla [0x17] ∧ costs .rla 1 (.fixed 4) ∧ accRotDoes .rla (fun v k => v * 2 % 256 + k) (fun v _ => v / 128)) ∧
  (codedAs .rra [0x1F] ∧ costs .rra 1 (.fixed 4) ∧ accRotDoes .rra (fun v k => v / 2 + k * 128) (fun v _ => v % 2))

/-- 44_rotate_shift_bit.md R254, R256, R258, R260, R262, R263, R266, R267, R270, R271, R274, R275: RLC, RL, SLA and SWAP. -/
def Obligations.RotateLeft : Prop :=
  (rotCoded .rlc ∧ rotDoes .rlc (fun v _ => v * 2 % 256 + v / 128) (fun v _ => v / 128)) ∧
  (rotCoded .rl ∧ rotDoes .rl (fun v k => v * 2 % 256 + k) (fun v _ => v / 128)) ∧
  (rotCoded .sla ∧ rotDoes .sla (fun v _ => v * 2 % 256) (fun v _ => v / 128)) ∧
  (rotCoded .swap ∧ rotDoes .swap (fun v _ => v % 16 * 16 + v / 16) (fun _ _ => 0))

/-- 44_rotate_shift_bit.md R255, R257, R259, R261, R264, R265, R268, R269, R272, R273, R276, R277: RRC, RR, SRA and SRL. -/
def Obligations.RotateRight : Prop :=
  (rotCoded .rrc ∧ rotDoes .rrc (fun v _ => v / 2 + v % 2 * 128) (fun v _ => v % 2)) ∧
  (rotCoded .rr ∧ rotDoes .rr (fun v k => v / 2 + k * 128) (fun v _ => v % 2)) ∧
  (rotCoded .sra ∧ rotDoes .sra (fun v _ => v / 2 + v / 128 * 128) (fun v _ => v % 2)) ∧
  (rotCoded .srl ∧ rotDoes .srl (fun v _ => v / 2) (fun v _ => v % 2))

/-- 44_rotate_shift_bit.md R278 and R279: only `F` is written; `fC` is kept. -/
def Obligations.TestBit : Prop :=
  ∀ (b : Fin 8) (o : Operand8) (s : State),
    codedAs (Forms.bit b o) [0xCB, 0x40 + 8 * numIndex b + operandIndex o] ∧ costs (Forms.bit b o) 2 (operandCost o 8 12) ∧
    ∃ t, exec (Forms.bit b o) s = .next t ∧
      flagsAre ((s.operand o).toNat / 2 ^ b.val % 2 = 0) False True (s.fC = true) t ∧ frame [] [] s t ∧ plainEnd 2 s t

/-- 44_rotate_shift_bit.md R280 to R283: one bit is cleared or set, the other seven and all flags are kept. -/
def Obligations.ResetAndSetBit : Prop :=
  ∀ (b : Fin 8) (o : Operand8) (s : State),
    (codedAs (Forms.res b o) [0xCB, 0x80 + 8 * numIndex b + operandIndex o] ∧ costs (Forms.res b o) 2 (operandCost o 8 16) ∧
      codedAs (Forms.set b o) [0xCB, 0xC0 + 8 * numIndex b + operandIndex o] ∧ costs (Forms.set b o) 2 (operandCost o 8 16)) ∧
    (writable s o → s.legal = true →
      (∃ t, exec (Forms.res b o) s = .next t ∧
        (∀ k : Nat, (operandAfter s t o).getLsbD k = if k = b.val then false else (s.operand o).getLsbD k) ∧
        frame (writtenRegs o) (writtenBytes s o) s t ∧ t.f = s.f ∧ plainEnd 2 s t) ∧
      (∃ t, exec (Forms.set b o) s = .next t ∧
        (∀ k : Nat, (operandAfter s t o).getLsbD k = if k = b.val then true else (s.operand o).getLsbD k) ∧
        frame (writtenRegs o) (writtenBytes s o) s t ∧ t.f = s.f ∧ plainEnd 2 s t)) ∧
    (o = .atHl → s.hl.toNat < 0x8000 →
      exec (Forms.res b o) s = .fault .fatalWriteProtectionError ∧
      exec (Forms.set b o) s = .fault .fatalWriteProtectionError)

/-! ## Control flow -/

/-- 45_control_flow.md R300 to R302. -/
def Obligations.JumpAbsolute : Prop :=
  (∀ (a16 : Word) (s : State),
    codedAs (.jpA16 a16) [0xC3, loByte a16, hiByte a16] ∧ costs (.jpA16 a16) 3 (.fixed 16) ∧ onlyPc (.jpA16 a16) a16 s) ∧
  wordFetchFaults 0xC3 ∧
  (∀ (cc : Cond) (a16 : Word) (s : State),
    codedAs (Forms.jp cc a16) [0xC2 + 8 * condIndex cc, loByte a16, hiByte a16] ∧
    costs (Forms.jp cc a16) 3 (.conditional cc 16 12) ∧
    (condTrue cc s → onlyPc (Forms.jp cc a16) a16 s) ∧ (¬condTrue cc s → onlyPc (Forms.jp cc a16) (s.pc + 3) s)) ∧
  (∀ cc : Cond, wordFetchFaults (0xC2 + 8 * condIndex cc)) ∧
  (∀ s : State, codedAs .jpHl [0xE9] ∧ costs .jpHl 1 (.fixed 4) ∧ onlyPc .jpHl s.hl s)

/-- 45_control_flow.md R303 and R304: the base is the address after the two bytes, the displacement is signed, the sum wraps. -/
def Obligations.JumpRelative : Prop :=
  ∀ (e8 : Byte) (s : State) (target : Word), (target.toNat : Int) = ((s.pc.toNat : Int) + 2 + e8.toInt) % 0x10000 →
    (codedAs (.jrE8 e8) [0x18, e8] ∧ costs (.jrE8 e8) 2 (.fixed 12) ∧ onlyPc (.jrE8 e8) target s) ∧
    ∀ cc : Cond,
      codedAs (Forms.jr cc e8) [0x20 + 8 * condIndex cc, e8] ∧ costs (Forms.jr cc e8) 2 (.conditional cc 12 8) ∧
      (condTrue cc s → onlyPc (Forms.jr cc e8) target s) ∧ (¬condTrue cc s → onlyPc (Forms.jr cc e8) (s.pc + 2) s)

/-- 45_control_flow.md R305, R306 and R311. -/
def Obligations.CallAndRestart : Prop :=
  (∀ (a16 : Word) (s : State),
    codedAs (.callA16 a16) [0xCD, loByte a16, hiByte a16] ∧ costs (.callA16 a16) 3 (.fixed 24) ∧
    calls (.callA16 a16) a16 (s.pc + 3) s) ∧
  wordFetchFaults 0xCD ∧
  (∀ (cc : Cond) (a16 : Word) (s : State),
    codedAs (Forms.call cc a16) [0xC4 + 8 * condIndex cc, loByte a16, hiByte a16] ∧
    costs (Forms.call cc a16) 3 (.conditional cc 24 12) ∧
    (condTrue cc s → calls (Forms.call cc a16) a16 (s.pc + 3) s) ∧
    (¬condTrue cc s → onlyPc (Forms.call cc a16) (s.pc + 3) s)) ∧
  (∀ cc : Cond, wordFetchFaults (0xC4 + 8 * condIndex cc)) ∧
  (∀ (k : Fin 8) (s : State),
    codedAs (Forms.rst k) [0xC7 + 8 * numIndex k] ∧ costs (Forms.rst k) 1 (.fixed 16) ∧
    calls (Forms.rst k) (BitVec.ofNat 16 (8 * k.val)) (s.pc + 1) s)

/-- 45_control_flow.md R308 to R310: RETI also sets `IME`; an untaken return does not read the stack. -/
def Obligations.Return : Prop :=
  ∀ s : State,
    (codedAs .ret [0xC9] ∧ costs .ret 1 (.fixed 16) ∧ returns .ret s.ime s) ∧
    (codedAs .reti [0xD9] ∧ costs .reti 1 (.fixed 16) ∧ returns .reti true s) ∧
    ∀ cc : Cond,
      codedAs (Forms.ret cc) [0xC0 + 8 * condIndex cc] ∧ costs (Forms.ret cc) 1 (.conditional cc 20 8) ∧
      (condTrue cc s → returns (Forms.ret cc) s.ime s) ∧ (¬condTrue cc s → onlyPc (Forms.ret cc) (s.pc + 1) s)

/-- 41_load16_stack.md §1, §3 and 45_control_flow.md §3, §4: a pair pushed and popped back, and a call followed by a return, leave every
register, `F` and `SP` as they were; the return goes to the address after the CALL. -/
def Obligations.StackRoundTrips : Prop :=
  ∀ s : State, canPush s → s.legal = true →
    (∀ p : StackPair, ∃ t u, exec (Forms.push p) s = .next t ∧ exec (Forms.pop p) t = .next u ∧ u.sp = s.sp ∧
      u.f = s.f ∧ (∀ r : Reg8, u.reg r = s.reg r) ∧ u.pc = s.pc + 2) ∧
    (∀ a16 : Word, ∃ t u, exec (.callA16 a16) s = .next t ∧ exec .ret t = .next u ∧ t.pc = a16 ∧ u.pc = s.pc + 3 ∧
      u.sp = s.sp ∧ u.f = s.f ∧ (∀ r : Reg8, u.reg r = s.reg r) ∧ controlKept s u)

/-! ## System instructions -/

/-- 46_system.md R320 and R323. -/
def Obligations.NopAndDi : Prop :=
  ∀ s : State,
    (codedAs .nop [0x00] ∧ costs .nop 1 (.fixed 4) ∧ onlyPc .nop (s.pc + 1) s) ∧
    (codedAs .di [0xF3] ∧ costs .di 1 (.fixed 4) ∧
      ∃ t, exec .di s = .next t ∧ t.ime = false ∧ t.run = s.run ∧ t.sp = s.sp ∧ t.pc = s.pc + 1 ∧ t.f = s.f ∧
        frame [] [] s t)

/-- 46_system.md §2 to §4: HALT and STOP (D11, D12), EI at once (D10), and the eleven reserved bytes as no-ops (D7): the spec's
decisions, logs 8 and 10. -/
def Obligations.HaltStopEiReserved : Prop :=
  (∀ s : State,
    (codedAs .halt [0x76] ∧ costs .halt 1 (.fixed 4) ∧
      ∃ t, exec .halt s = .next t ∧ t.run = .lowPower ∧ t.ime = s.ime ∧ t.sp = s.sp ∧ t.pc = s.pc + 1 ∧ t.f = s.f ∧
        frame [] [] s t) ∧
    (costs .stop 2 (.fixed 4) ∧ (∀ (pad : Byte) (rest : List Byte), decode ([0x10, pad] ++ rest) = .instr .stop rest) ∧
      ∃ t, exec .stop s = .next t ∧ t.run = .lowPower ∧ t.ime = s.ime ∧ t.sp = s.sp ∧ t.pc = s.pc + 2 ∧ t.f = s.f ∧
        frame [] [] s t) ∧
    (codedAs .ei [0xFB] ∧ costs .ei 1 (.fixed 4) ∧
      ∃ t, exec .ei s = .next t ∧ t.ime = true ∧ t.run = s.run ∧ t.sp = s.sp ∧ t.pc = s.pc + 1 ∧ t.f = s.f ∧
        frame [] [] s t)) ∧
  (∀ k : Fin 11,
    codedAs (Forms.reserved k)
      [([0xD3, 0xDB, 0xDD, 0xE3, 0xE4, 0xEB, 0xEC, 0xED, 0xF4, 0xFC, 0xFD] : List Byte).getD k.val 0x00] ∧
    costs (Forms.reserved k) 1 (.fixed 4) ∧ ∀ s : State, onlyPc (Forms.reserved k) (s.pc + 1) s)
end

