-- ==== Sys2Proof/Laws/Bytes.lean ====
section
/-! SUPPORT. Taking a word apart and putting it together again. -/

namespace Sys2Proof

/-- Bit `i` of a word made of two bytes. -/
theorem getLsbD_wordOf (hi lo : Byte) (i : Nat) :
    (wordOf hi lo).getLsbD i = if i < 8 then lo.getLsbD i else hi.getLsbD (i - 8) := by
  simp only [wordOf]
  rw [BitVec.getLsbD_append]

@[simp] theorem loByte_wordOf (hi lo : Byte) : loByte (wordOf hi lo) = lo := by
  apply BitVec.eq_of_getLsbD_eq
  intro i hi'
  simp [loByte, getLsbD_wordOf, hi']

@[simp] theorem hiByte_wordOf (hi lo : Byte) : hiByte (wordOf hi lo) = hi := by
  apply BitVec.eq_of_getLsbD_eq
  intro i hi'
  simp [hiByte, getLsbD_wordOf, hi']

@[simp] theorem wordOf_hiByte_loByte (w : Word) : wordOf (hiByte w) (loByte w) = w := by
  apply BitVec.eq_of_getLsbD_eq
  intro i hi'
  rw [getLsbD_wordOf]
  simp only [hiByte, loByte, BitVec.getLsbD_extractLsb']
  split
  · simp_all
  · have h : i - 8 < 8 := by omega
    have h2 : 8 + (i - 8) = i := by omega
    simp [h, h2]

/-- The word as a number (00_scope.md R9: `hi8 : lo8` is `hi8 * 256 + lo8`). -/
theorem toNat_wordOf (hi lo : Byte) : (wordOf hi lo).toNat = hi.toNat * 256 + lo.toNat := by
  have h := lo.isLt
  simp only [wordOf, BitVec.toNat_append]
  rw [Nat.shiftLeft_eq, Nat.mul_comm, ← Nat.two_pow_add_eq_or_of_lt (by simpa using h)]

end Sys2Proof
end

