-- ==== Sys2Proof/Laws/State.lean ====
section
/-! SUPPORT. What each state update does to each field: one lemma per field per update. -/

namespace Sys2Proof.Machine

/-! ## `advance` -/

@[simp] theorem State.advance_a (s : State) (n : Word) : (s.advance n).a = s.a := rfl
@[simp] theorem State.advance_f (s : State) (n : Word) : (s.advance n).f = s.f := rfl
@[simp] theorem State.advance_b (s : State) (n : Word) : (s.advance n).b = s.b := rfl
@[simp] theorem State.advance_c (s : State) (n : Word) : (s.advance n).c = s.c := rfl
@[simp] theorem State.advance_d (s : State) (n : Word) : (s.advance n).d = s.d := rfl
@[simp] theorem State.advance_e (s : State) (n : Word) : (s.advance n).e = s.e := rfl
@[simp] theorem State.advance_h (s : State) (n : Word) : (s.advance n).h = s.h := rfl
@[simp] theorem State.advance_l (s : State) (n : Word) : (s.advance n).l = s.l := rfl
@[simp] theorem State.advance_sp (s : State) (n : Word) : (s.advance n).sp = s.sp := rfl
@[simp] theorem State.advance_pc (s : State) (n : Word) : (s.advance n).pc = s.pc + n := rfl
@[simp] theorem State.advance_run (s : State) (n : Word) : (s.advance n).run = s.run := rfl
@[simp] theorem State.advance_ime (s : State) (n : Word) : (s.advance n).ime = s.ime := rfl
@[simp] theorem State.advance_mem (s : State) (n : Word) : (s.advance n).mem = s.mem := rfl
@[simp] theorem State.advance_faulted (s : State) (n : Word) : (s.advance n).faulted = s.faulted := rfl

/-! ## `jumpTo` -/

@[simp] theorem State.jumpTo_a (s : State) (t : Word) : (s.jumpTo t).a = s.a := rfl
@[simp] theorem State.jumpTo_f (s : State) (t : Word) : (s.jumpTo t).f = s.f := rfl
@[simp] theorem State.jumpTo_b (s : State) (t : Word) : (s.jumpTo t).b = s.b := rfl
@[simp] theorem State.jumpTo_c (s : State) (t : Word) : (s.jumpTo t).c = s.c := rfl
@[simp] theorem State.jumpTo_d (s : State) (t : Word) : (s.jumpTo t).d = s.d := rfl
@[simp] theorem State.jumpTo_e (s : State) (t : Word) : (s.jumpTo t).e = s.e := rfl
@[simp] theorem State.jumpTo_h (s : State) (t : Word) : (s.jumpTo t).h = s.h := rfl
@[simp] theorem State.jumpTo_l (s : State) (t : Word) : (s.jumpTo t).l = s.l := rfl
@[simp] theorem State.jumpTo_sp (s : State) (t : Word) : (s.jumpTo t).sp = s.sp := rfl
@[simp] theorem State.jumpTo_pc (s : State) (t : Word) : (s.jumpTo t).pc = t := rfl
@[simp] theorem State.jumpTo_run (s : State) (t : Word) : (s.jumpTo t).run = s.run := rfl
@[simp] theorem State.jumpTo_ime (s : State) (t : Word) : (s.jumpTo t).ime = s.ime := rfl
@[simp] theorem State.jumpTo_mem (s : State) (t : Word) : (s.jumpTo t).mem = s.mem := rfl
@[simp] theorem State.jumpTo_faulted (s : State) (t : Word) : (s.jumpTo t).faulted = s.faulted := rfl

/-! ## `setFlags` -/

@[simp] theorem State.setFlags_a (s : State) (g : FlagSet) : (s.setFlags g).a = s.a := rfl
@[simp] theorem State.setFlags_f (s : State) (g : FlagSet) : (s.setFlags g).f = g.toByte := rfl
@[simp] theorem State.setFlags_b (s : State) (g : FlagSet) : (s.setFlags g).b = s.b := rfl
@[simp] theorem State.setFlags_c (s : State) (g : FlagSet) : (s.setFlags g).c = s.c := rfl
@[simp] theorem State.setFlags_d (s : State) (g : FlagSet) : (s.setFlags g).d = s.d := rfl
@[simp] theorem State.setFlags_e (s : State) (g : FlagSet) : (s.setFlags g).e = s.e := rfl
@[simp] theorem State.setFlags_h (s : State) (g : FlagSet) : (s.setFlags g).h = s.h := rfl
@[simp] theorem State.setFlags_l (s : State) (g : FlagSet) : (s.setFlags g).l = s.l := rfl
@[simp] theorem State.setFlags_sp (s : State) (g : FlagSet) : (s.setFlags g).sp = s.sp := rfl
@[simp] theorem State.setFlags_pc (s : State) (g : FlagSet) : (s.setFlags g).pc = s.pc := rfl
@[simp] theorem State.setFlags_run (s : State) (g : FlagSet) : (s.setFlags g).run = s.run := rfl
@[simp] theorem State.setFlags_ime (s : State) (g : FlagSet) : (s.setFlags g).ime = s.ime := rfl
@[simp] theorem State.setFlags_mem (s : State) (g : FlagSet) : (s.setFlags g).mem = s.mem := rfl
@[simp] theorem State.setFlags_faulted (s : State) (g : FlagSet) : (s.setFlags g).faulted = s.faulted := rfl

/-! ## `setSp` -/

@[simp] theorem State.setSp_a (s : State) (v : Word) : (s.setSp v).a = s.a := rfl
@[simp] theorem State.setSp_f (s : State) (v : Word) : (s.setSp v).f = s.f := rfl
@[simp] theorem State.setSp_b (s : State) (v : Word) : (s.setSp v).b = s.b := rfl
@[simp] theorem State.setSp_c (s : State) (v : Word) : (s.setSp v).c = s.c := rfl
@[simp] theorem State.setSp_d (s : State) (v : Word) : (s.setSp v).d = s.d := rfl
@[simp] theorem State.setSp_e (s : State) (v : Word) : (s.setSp v).e = s.e := rfl
@[simp] theorem State.setSp_h (s : State) (v : Word) : (s.setSp v).h = s.h := rfl
@[simp] theorem State.setSp_l (s : State) (v : Word) : (s.setSp v).l = s.l := rfl
@[simp] theorem State.setSp_sp (s : State) (v : Word) : (s.setSp v).sp = v := rfl
@[simp] theorem State.setSp_pc (s : State) (v : Word) : (s.setSp v).pc = s.pc := rfl
@[simp] theorem State.setSp_run (s : State) (v : Word) : (s.setSp v).run = s.run := rfl
@[simp] theorem State.setSp_ime (s : State) (v : Word) : (s.setSp v).ime = s.ime := rfl
@[simp] theorem State.setSp_mem (s : State) (v : Word) : (s.setSp v).mem = s.mem := rfl
@[simp] theorem State.setSp_faulted (s : State) (v : Word) : (s.setSp v).faulted = s.faulted := rfl

/-! ## `setAf` -/

@[simp] theorem State.setAf_a (s : State) (v : Word) : (s.setAf v).a = hiByte v := rfl
@[simp] theorem State.setAf_f (s : State) (v : Word) : (s.setAf v).f = loByte v &&& 0xF0 := rfl
@[simp] theorem State.setAf_b (s : State) (v : Word) : (s.setAf v).b = s.b := rfl
@[simp] theorem State.setAf_c (s : State) (v : Word) : (s.setAf v).c = s.c := rfl
@[simp] theorem State.setAf_d (s : State) (v : Word) : (s.setAf v).d = s.d := rfl
@[simp] theorem State.setAf_e (s : State) (v : Word) : (s.setAf v).e = s.e := rfl
@[simp] theorem State.setAf_h (s : State) (v : Word) : (s.setAf v).h = s.h := rfl
@[simp] theorem State.setAf_l (s : State) (v : Word) : (s.setAf v).l = s.l := rfl
@[simp] theorem State.setAf_sp (s : State) (v : Word) : (s.setAf v).sp = s.sp := rfl
@[simp] theorem State.setAf_pc (s : State) (v : Word) : (s.setAf v).pc = s.pc := rfl
@[simp] theorem State.setAf_run (s : State) (v : Word) : (s.setAf v).run = s.run := rfl
@[simp] theorem State.setAf_ime (s : State) (v : Word) : (s.setAf v).ime = s.ime := rfl
@[simp] theorem State.setAf_mem (s : State) (v : Word) : (s.setAf v).mem = s.mem := rfl
@[simp] theorem State.setAf_faulted (s : State) (v : Word) : (s.setAf v).faulted = s.faulted := rfl

/-! ## `setBc` -/

@[simp] theorem State.setBc_a (s : State) (v : Word) : (s.setBc v).a = s.a := rfl
@[simp] theorem State.setBc_f (s : State) (v : Word) : (s.setBc v).f = s.f := rfl
@[simp] theorem State.setBc_b (s : State) (v : Word) : (s.setBc v).b = hiByte v := rfl
@[simp] theorem State.setBc_c (s : State) (v : Word) : (s.setBc v).c = loByte v := rfl
@[simp] theorem State.setBc_d (s : State) (v : Word) : (s.setBc v).d = s.d := rfl
@[simp] theorem State.setBc_e (s : State) (v : Word) : (s.setBc v).e = s.e := rfl
@[simp] theorem State.setBc_h (s : State) (v : Word) : (s.setBc v).h = s.h := rfl
@[simp] theorem State.setBc_l (s : State) (v : Word) : (s.setBc v).l = s.l := rfl
@[simp] theorem State.setBc_sp (s : State) (v : Word) : (s.setBc v).sp = s.sp := rfl
@[simp] theorem State.setBc_pc (s : State) (v : Word) : (s.setBc v).pc = s.pc := rfl
@[simp] theorem State.setBc_run (s : State) (v : Word) : (s.setBc v).run = s.run := rfl
@[simp] theorem State.setBc_ime (s : State) (v : Word) : (s.setBc v).ime = s.ime := rfl
@[simp] theorem State.setBc_mem (s : State) (v : Word) : (s.setBc v).mem = s.mem := rfl
@[simp] theorem State.setBc_faulted (s : State) (v : Word) : (s.setBc v).faulted = s.faulted := rfl

/-! ## `setDe` -/

@[simp] theorem State.setDe_a (s : State) (v : Word) : (s.setDe v).a = s.a := rfl
@[simp] theorem State.setDe_f (s : State) (v : Word) : (s.setDe v).f = s.f := rfl
@[simp] theorem State.setDe_b (s : State) (v : Word) : (s.setDe v).b = s.b := rfl
@[simp] theorem State.setDe_c (s : State) (v : Word) : (s.setDe v).c = s.c := rfl
@[simp] theorem State.setDe_d (s : State) (v : Word) : (s.setDe v).d = hiByte v := rfl
@[simp] theorem State.setDe_e (s : State) (v : Word) : (s.setDe v).e = loByte v := rfl
@[simp] theorem State.setDe_h (s : State) (v : Word) : (s.setDe v).h = s.h := rfl
@[simp] theorem State.setDe_l (s : State) (v : Word) : (s.setDe v).l = s.l := rfl
@[simp] theorem State.setDe_sp (s : State) (v : Word) : (s.setDe v).sp = s.sp := rfl
@[simp] theorem State.setDe_pc (s : State) (v : Word) : (s.setDe v).pc = s.pc := rfl
@[simp] theorem State.setDe_run (s : State) (v : Word) : (s.setDe v).run = s.run := rfl
@[simp] theorem State.setDe_ime (s : State) (v : Word) : (s.setDe v).ime = s.ime := rfl
@[simp] theorem State.setDe_mem (s : State) (v : Word) : (s.setDe v).mem = s.mem := rfl
@[simp] theorem State.setDe_faulted (s : State) (v : Word) : (s.setDe v).faulted = s.faulted := rfl

/-! ## `setHl` -/

@[simp] theorem State.setHl_a (s : State) (v : Word) : (s.setHl v).a = s.a := rfl
@[simp] theorem State.setHl_f (s : State) (v : Word) : (s.setHl v).f = s.f := rfl
@[simp] theorem State.setHl_b (s : State) (v : Word) : (s.setHl v).b = s.b := rfl
@[simp] theorem State.setHl_c (s : State) (v : Word) : (s.setHl v).c = s.c := rfl
@[simp] theorem State.setHl_d (s : State) (v : Word) : (s.setHl v).d = s.d := rfl
@[simp] theorem State.setHl_e (s : State) (v : Word) : (s.setHl v).e = s.e := rfl
@[simp] theorem State.setHl_h (s : State) (v : Word) : (s.setHl v).h = hiByte v := rfl
@[simp] theorem State.setHl_l (s : State) (v : Word) : (s.setHl v).l = loByte v := rfl
@[simp] theorem State.setHl_sp (s : State) (v : Word) : (s.setHl v).sp = s.sp := rfl
@[simp] theorem State.setHl_pc (s : State) (v : Word) : (s.setHl v).pc = s.pc := rfl
@[simp] theorem State.setHl_run (s : State) (v : Word) : (s.setHl v).run = s.run := rfl
@[simp] theorem State.setHl_ime (s : State) (v : Word) : (s.setHl v).ime = s.ime := rfl
@[simp] theorem State.setHl_mem (s : State) (v : Word) : (s.setHl v).mem = s.mem := rfl
@[simp] theorem State.setHl_faulted (s : State) (v : Word) : (s.setHl v).faulted = s.faulted := rfl

/-! ## `setReg` -/

@[simp] theorem State.setReg_f (s : State) (r : Reg8) (v : Byte) : (s.setReg r v).f = s.f := by cases r <;> rfl
@[simp] theorem State.setReg_sp (s : State) (r : Reg8) (v : Byte) : (s.setReg r v).sp = s.sp := by cases r <;> rfl
@[simp] theorem State.setReg_pc (s : State) (r : Reg8) (v : Byte) : (s.setReg r v).pc = s.pc := by cases r <;> rfl
@[simp] theorem State.setReg_run (s : State) (r : Reg8) (v : Byte) : (s.setReg r v).run = s.run := by cases r <;> rfl
@[simp] theorem State.setReg_ime (s : State) (r : Reg8) (v : Byte) : (s.setReg r v).ime = s.ime := by cases r <;> rfl
@[simp] theorem State.setReg_mem (s : State) (r : Reg8) (v : Byte) : (s.setReg r v).mem = s.mem := by cases r <;> rfl
@[simp] theorem State.setReg_faulted (s : State) (r : Reg8) (v : Byte) : (s.setReg r v).faulted = s.faulted := by cases r <;> rfl

/-! ## `setPair` -/

@[simp] theorem State.setPair_a (s : State) (r : Reg16) (v : Word) : (s.setPair r v).a = s.a := by cases r <;> rfl
@[simp] theorem State.setPair_f (s : State) (r : Reg16) (v : Word) : (s.setPair r v).f = s.f := by cases r <;> rfl
@[simp] theorem State.setPair_pc (s : State) (r : Reg16) (v : Word) : (s.setPair r v).pc = s.pc := by cases r <;> rfl
@[simp] theorem State.setPair_run (s : State) (r : Reg16) (v : Word) : (s.setPair r v).run = s.run := by cases r <;> rfl
@[simp] theorem State.setPair_ime (s : State) (r : Reg16) (v : Word) : (s.setPair r v).ime = s.ime := by cases r <;> rfl
@[simp] theorem State.setPair_mem (s : State) (r : Reg16) (v : Word) : (s.setPair r v).mem = s.mem := by cases r <;> rfl
@[simp] theorem State.setPair_faulted (s : State) (r : Reg16) (v : Word) : (s.setPair r v).faulted = s.faulted := by cases r <;> rfl

/-! ## `setStackPair` -/

@[simp] theorem State.setStackPair_sp (s : State) (r : StackPair) (v : Word) : (s.setStackPair r v).sp = s.sp := by cases r <;> rfl
@[simp] theorem State.setStackPair_pc (s : State) (r : StackPair) (v : Word) : (s.setStackPair r v).pc = s.pc := by cases r <;> rfl
@[simp] theorem State.setStackPair_run (s : State) (r : StackPair) (v : Word) : (s.setStackPair r v).run = s.run := by cases r <;> rfl
@[simp] theorem State.setStackPair_ime (s : State) (r : StackPair) (v : Word) : (s.setStackPair r v).ime = s.ime := by cases r <;> rfl
@[simp] theorem State.setStackPair_mem (s : State) (r : StackPair) (v : Word) : (s.setStackPair r v).mem = s.mem := by cases r <;> rfl
@[simp] theorem State.setStackPair_faulted (s : State) (r : StackPair) (v : Word) : (s.setStackPair r v).faulted = s.faulted := by cases r <;> rfl

/-! ## Reading a register after writing one -/

@[simp] theorem State.reg_setReg (s : State) (r r' : Reg8) (v : Byte) :
    (s.setReg r v).reg r' = if r' = r then v else s.reg r' := by
  cases r <;> cases r' <;> rfl

@[simp] theorem State.reg_advance (s : State) (n : Word) (r : Reg8) : (s.advance n).reg r = s.reg r := by cases r <;> rfl

@[simp] theorem State.reg_jumpTo (s : State) (t : Word) (r : Reg8) : (s.jumpTo t).reg r = s.reg r := by cases r <;> rfl

@[simp] theorem State.reg_setFlags (s : State) (g : FlagSet) (r : Reg8) : (s.setFlags g).reg r = s.reg r := by
  cases r <;> rfl

@[simp] theorem State.reg_setSp (s : State) (v : Word) (r : Reg8) : (s.setSp v).reg r = s.reg r := by cases r <;> rfl

/-! ## Flags after writing flags -/

@[simp] theorem FlagSet.toByte_bit7 (g : FlagSet) : g.toByte.getLsbD 7 = g.z := by
  rcases g with ⟨_ | _, _ | _, _ | _, _ | _⟩ <;> decide

@[simp] theorem State.fZ_setFlags (s : State) (g : FlagSet) : (s.setFlags g).fZ = g.z := g.toByte_bit7

@[simp] theorem FlagSet.toByte_bit6 (g : FlagSet) : g.toByte.getLsbD 6 = g.n := by
  rcases g with ⟨_ | _, _ | _, _ | _, _ | _⟩ <;> decide

@[simp] theorem State.fN_setFlags (s : State) (g : FlagSet) : (s.setFlags g).fN = g.n := g.toByte_bit6

@[simp] theorem FlagSet.toByte_bit5 (g : FlagSet) : g.toByte.getLsbD 5 = g.h := by
  rcases g with ⟨_ | _, _ | _, _ | _, _ | _⟩ <;> decide

@[simp] theorem State.fH_setFlags (s : State) (g : FlagSet) : (s.setFlags g).fH = g.h := g.toByte_bit5

@[simp] theorem FlagSet.toByte_bit4 (g : FlagSet) : g.toByte.getLsbD 4 = g.c := by
  rcases g with ⟨_ | _, _ | _, _ | _, _ | _⟩ <;> decide

@[simp] theorem State.fC_setFlags (s : State) (g : FlagSet) : (s.setFlags g).fC = g.c := g.toByte_bit4

/-- Whatever flags are written, bits 3:0 of the byte are zero (10_state.md R22). -/
@[simp] theorem FlagSet.toByte_lowNibble (g : FlagSet) : g.toByte &&& 0x0F#8 = 0x00#8 := by
  rcases g with ⟨_ | _, _ | _, _ | _, _ | _⟩ <;> decide

/-- The same of the byte that POP AF stores (41_load16_stack.md R178). -/
@[simp] theorem masked_lowNibble (v : Byte) : v &&& 0xF0#8 &&& 0x0F#8 = 0x00#8 := by
  rw [BitVec.and_assoc]; simp

/-! ## Flags depend on `F` only -/

@[simp] theorem State.fZ_advance (s : State) (n : Word) : (s.advance n).fZ = s.fZ := rfl
@[simp] theorem State.fN_advance (s : State) (n : Word) : (s.advance n).fN = s.fN := rfl
@[simp] theorem State.fH_advance (s : State) (n : Word) : (s.advance n).fH = s.fH := rfl
@[simp] theorem State.fC_advance (s : State) (n : Word) : (s.advance n).fC = s.fC := rfl

/-! ## Memory reads depend on `mem` only -/

theorem State.read8_congr {s t : State} (h : t.mem = s.mem) (a : Word) : t.read8 a = s.read8 a := by
  simp only [State.read8, h]

@[simp] theorem State.read8_advance (s : State) (n a : Word) : (s.advance n).read8 a = s.read8 a := rfl
@[simp] theorem State.read8_jumpTo (s : State) (t a : Word) : (s.jumpTo t).read8 a = s.read8 a := rfl
@[simp] theorem State.read8_setFlags (s : State) (g : FlagSet) (a : Word) : (s.setFlags g).read8 a = s.read8 a := rfl
@[simp] theorem State.read8_setSp (s : State) (v a : Word) : (s.setSp v).read8 a = s.read8 a := rfl
@[simp] theorem State.read8_setHl (s : State) (v a : Word) : (s.setHl v).read8 a = s.read8 a := rfl

@[simp] theorem State.read8_setReg (s : State) (r : Reg8) (v : Byte) (a : Word) : (s.setReg r v).read8 a = s.read8 a :=
  State.read8_congr (by simp) a

@[simp] theorem State.read8_setPair (s : State) (p : Reg16) (v a : Word) : (s.setPair p v).read8 a = s.read8 a :=
  State.read8_congr (by simp) a

@[simp] theorem State.read8_setStackPair (s : State) (p : StackPair) (v a : Word) :
    (s.setStackPair p v).read8 a = s.read8 a :=
  State.read8_congr (by simp) a

end Sys2Proof.Machine
end

