-- ==== Sys2Proof/Laws/Exec.lean ====
section
/-! SUPPORT. Which shared operation carries out each operand form: one lemma per form, so that a proof about a family of instructions is
a proof about one operation. -/

namespace Sys2Proof.Machine

/-! ## Writing `A` and the flags -/

@[simp] theorem State.setResult_a (s : State) (r : AluResult) : (s.setResult r).a = r.value := rfl
@[simp] theorem State.setResult_f (s : State) (r : AluResult) : (s.setResult r).f = r.flags.toByte := rfl
@[simp] theorem State.setResult_b (s : State) (r : AluResult) : (s.setResult r).b = s.b := rfl
@[simp] theorem State.setResult_c (s : State) (r : AluResult) : (s.setResult r).c = s.c := rfl
@[simp] theorem State.setResult_d (s : State) (r : AluResult) : (s.setResult r).d = s.d := rfl
@[simp] theorem State.setResult_e (s : State) (r : AluResult) : (s.setResult r).e = s.e := rfl
@[simp] theorem State.setResult_h (s : State) (r : AluResult) : (s.setResult r).h = s.h := rfl
@[simp] theorem State.setResult_l (s : State) (r : AluResult) : (s.setResult r).l = s.l := rfl
@[simp] theorem State.setResult_sp (s : State) (r : AluResult) : (s.setResult r).sp = s.sp := rfl
@[simp] theorem State.setResult_pc (s : State) (r : AluResult) : (s.setResult r).pc = s.pc := rfl
@[simp] theorem State.setResult_run (s : State) (r : AluResult) : (s.setResult r).run = s.run := rfl
@[simp] theorem State.setResult_ime (s : State) (r : AluResult) : (s.setResult r).ime = s.ime := rfl
@[simp] theorem State.setResult_mem (s : State) (r : AluResult) : (s.setResult r).mem = s.mem := rfl
@[simp] theorem State.setResult_faulted (s : State) (r : AluResult) : (s.setResult r).faulted = s.faulted := rfl

/-! ## Loads and stores -/

theorem exec_ldRegReg (r r' : Reg8) (s : State) : exec (Forms.ldRegReg r r') s = loadReg r (s.reg r') 1 s := by
  cases r <;> cases r' <;> rfl

theorem exec_ldRegImm (r : Reg8) (n8 : Byte) (s : State) : exec (Forms.ldRegImm r n8) s = loadReg r n8 2 s := by
  cases r <;> rfl

theorem exec_ldRegAtHl (r : Reg8) (s : State) : exec (Forms.ldRegAtHl r) s = loadReg r (s.read8 s.hl) 1 s := by
  cases r <;> rfl

theorem exec_ldAtHlReg (r : Reg8) (s : State) : exec (Forms.ldAtHlReg r) s = storeByte s.hl (s.reg r) 1 s := by
  cases r <;> rfl

theorem exec_ldPairImm (p : Reg16) (n16 : Word) (s : State) : exec (Forms.ldPairImm p n16) s = loadPair p n16 3 s := by
  cases p <;> rfl

theorem exec_push (p : StackPair) (s : State) : exec (Forms.push p) s = pushPair p s := by cases p <;> rfl

theorem exec_pop (p : StackPair) (s : State) : exec (Forms.pop p) s = popPair p s := by cases p <;> rfl

/-! ## Arithmetic and logic -/

theorem exec_alu (op : AluOp) (o : Operand8) (s : State) : exec (Forms.alu op o) s = aluOnA op (s.operand o) 1 s := by
  rcases o with (_ | _ | _ | _ | _ | _ | _) | _ <;> cases op <;> rfl

theorem exec_aluImm (op : AluOp) (n8 : Byte) (s : State) : exec (Forms.aluImm op n8) s = aluOnA op n8 2 s := by
  cases op <;> rfl

theorem exec_inc (o : Operand8) (s : State) : exec (Forms.inc o) s = stepOperand inc8 o s := by
  rcases o with (_ | _ | _ | _ | _ | _ | _) | _ <;> rfl

theorem exec_dec (o : Operand8) (s : State) : exec (Forms.dec o) s = stepOperand dec8 o s := by
  rcases o with (_ | _ | _ | _ | _ | _ | _) | _ <;> rfl

theorem exec_addHl (p : Reg16) (s : State) : exec (Forms.addHl p) s = addToHl (s.pair p) s := by cases p <;> rfl

theorem exec_incPair (p : Reg16) (s : State) : exec (Forms.incPair p) s = adjustPair p 1 s := by cases p <;> rfl

theorem exec_decPair (p : Reg16) (s : State) : exec (Forms.decPair p) s = adjustPair p (-1) s := by cases p <;> rfl

/-! ## Rotates, shifts and bits -/

theorem exec_rot (op : RotOp) (o : Operand8) (s : State) : exec (Forms.rot op o) s = rotateOperand op o s := by
  rcases o with (_ | _ | _ | _ | _ | _ | _) | _ <;> cases op <;> rfl

theorem exec_bit (b : Fin 8) (o : Operand8) (s : State) : exec (Forms.bit b o) s = testBit b o s := by
  rcases o with (_ | _ | _ | _ | _ | _ | _) | _ <;> fin_cases b <;> rfl

theorem exec_res (b : Fin 8) (o : Operand8) (s : State) : exec (Forms.res b o) s = changeBit (clearBit b) o s := by
  rcases o with (_ | _ | _ | _ | _ | _ | _) | _ <;> fin_cases b <;> rfl

theorem exec_set (b : Fin 8) (o : Operand8) (s : State) : exec (Forms.set b o) s = changeBit (raiseBit b) o s := by
  rcases o with (_ | _ | _ | _ | _ | _ | _) | _ <;> fin_cases b <;> rfl

/-! ## Control flow -/

theorem exec_jp (cc : Cond) (a16 : Word) (s : State) : exec (Forms.jp cc a16) s = jumpIf cc a16 3 s := by cases cc <;> rfl

theorem exec_jr (cc : Cond) (e8 : Byte) (s : State) : exec (Forms.jr cc e8) s = jumpIf cc (relativeTarget e8 s) 2 s := by
  cases cc <;> rfl

theorem exec_call (cc : Cond) (a16 : Word) (s : State) : exec (Forms.call cc a16) s = callIf cc a16 s := by cases cc <;> rfl

theorem exec_ret (cc : Cond) (s : State) : exec (Forms.ret cc) s = returnIf cc s := by cases cc <;> rfl

theorem exec_rst (k : Fin 8) (s : State) : exec (Forms.rst k) s = callSubroutine (BitVec.ofNat 16 (8 * k.val)) 1 s := by
  fin_cases k <;> rfl

theorem exec_reserved (k : Fin 11) (s : State) : exec (Forms.reserved k) s = finish 1 s := by fin_cases k <;> rfl

end Sys2Proof.Machine
end

