-- ==== Sys2Proof/Laws/Memory.lean ====
section
/-! SUPPORT. The memory list: a read after a write, and that every memory operation keeps the canonical form. -/

namespace Sys2Proof.Machine

@[simp] theorem Memory.read_nil (a : Nat) : Memory.read [] a = 0x00 := rfl

/-! ## The canonical form -/

theorem Memory.wfFrom_cons {lo k : Nat} {v : Byte} {m : Memory} :
    Memory.wfFrom lo ((k, v) :: m) = true ↔ lo ≤ k ∧ k < 0x10000 ∧ v ≠ 0x00 ∧ Memory.wfFrom (k + 1) m = true := by
  simp [Memory.wfFrom, and_assoc]

theorem Memory.wfFrom_weaken {lo lo' : Nat} {m : Memory} (h : lo' ≤ lo) (hm : Memory.wfFrom lo m = true) :
    Memory.wfFrom lo' m = true := by
  cases m with
  | nil => rfl
  | cons cell rest =>
    obtain ⟨k, v⟩ := cell
    rw [Memory.wfFrom_cons] at hm ⊢
    exact ⟨by omega, hm.2⟩

/-- A canonical list holds nothing below its start. -/
theorem Memory.read_below {lo a : Nat} {m : Memory} (hm : Memory.wfFrom lo m = true) (h : a < lo) : m.read a = 0x00 := by
  induction m generalizing lo with
  | nil => rfl
  | cons cell rest ih =>
    obtain ⟨k, v⟩ := cell
    rw [Memory.wfFrom_cons] at hm
    have hk : k ≠ a := by omega
    simp only [Memory.read, hk, if_false]
    exact ih hm.2.2.2 (by omega)

theorem Memory.wfFrom_consCell {lo a : Nat} {v : Byte} {m : Memory} (h : lo ≤ a) (ha : a < 0x10000)
    (hm : Memory.wfFrom (a + 1) m = true) : Memory.wfFrom lo (Memory.consCell a v m) = true := by
  unfold Memory.consCell
  split
  · exact Memory.wfFrom_weaken (by omega) hm
  · exact Memory.wfFrom_cons.2 ⟨h, ha, ‹_›, hm⟩

theorem Memory.wfFrom_write {lo a : Nat} {v : Byte} {m : Memory} (h : lo ≤ a) (ha : a < 0x10000)
    (hm : Memory.wfFrom lo m = true) : Memory.wfFrom lo (m.write a v) = true := by
  induction m generalizing lo with
  | nil => exact Memory.wfFrom_consCell h ha rfl
  | cons cell rest ih =>
    obtain ⟨k, u⟩ := cell
    have hm' := Memory.wfFrom_cons.1 hm
    unfold Memory.write
    split
    · exact Memory.wfFrom_consCell h ha (Memory.wfFrom_cons.2 ⟨by omega, hm'.2⟩)
    · split
      · subst_vars; exact Memory.wfFrom_consCell h ha hm'.2.2.2
      · exact Memory.wfFrom_cons.2 ⟨hm'.1, hm'.2.1, hm'.2.2.1, ih (by omega) hm'.2.2.2⟩

/-- A write inside the address space keeps the canonical form. -/
theorem Memory.wf_write {a : Nat} {v : Byte} {m : Memory} (ha : a < 0x10000) (hm : m.wf = true) : (m.write a v).wf = true :=
  Memory.wfFrom_write (Nat.zero_le a) ha hm

/-- A write at a 16-bit address keeps the canonical form. -/
theorem Memory.wf_write_word {a : BitVec 16} {v : Byte} {m : Memory} (hm : m.wf = true) : (m.write a.toNat v).wf = true :=
  Memory.wf_write a.isLt hm

theorem Memory.wf_writeBytes {data : List Byte} {a : Nat} {m : Memory} (ha : a + data.length ≤ 0x10000)
    (hm : m.wf = true) : (m.writeBytes a data).wf = true := by
  induction data generalizing a m with
  | nil => exact hm
  | cons v vs ih =>
    simp only [List.length_cons] at ha
    exact ih (by omega) (Memory.wf_write (by omega) hm)

/-! ## Reading after writing -/

theorem Memory.read_consCell {a b : Nat} {v : Byte} {m : Memory} (h : m.read a = 0x00) :
    (Memory.consCell a v m).read b = if b = a then v else m.read b := by
  unfold Memory.consCell
  split
  · split
    · simp_all
    · rfl
  · simp only [Memory.read, eq_comm]

/-- What a byte reads as after a write to a canonical memory: the byte written at that address, the old byte at any other. -/
theorem Memory.read_write {lo a b : Nat} {v : Byte} {m : Memory} (hm : Memory.wfFrom lo m = true) :
    (m.write a v).read b = if b = a then v else m.read b := by
  induction m generalizing lo with
  | nil => exact Memory.read_consCell rfl
  | cons cell rest ih =>
    obtain ⟨k, u⟩ := cell
    have hm' := Memory.wfFrom_cons.1 hm
    unfold Memory.write
    split
    · rename_i hlt
      exact Memory.read_consCell (Memory.read_below (Memory.wfFrom_cons.2 ⟨le_refl k, hm'.2⟩) hlt)
    · split
      · subst_vars
        rw [Memory.read_consCell (Memory.read_below hm'.2.2.2 (by omega))]
        by_cases hb : b = k <;> simp [Memory.read, hb, eq_comm]
      · rename_i hne
        simp only [Memory.read, ih hm'.2.2.2]
        by_cases hb : k = b
        · subst hb; simp [Ne.symm hne]
        · simp [hb]

/-- A write leaves every other address alone, whatever the list. -/
theorem Memory.read_write_other {a b : Nat} {v : Byte} {m : Memory} (h : b ≠ a) : (m.write a v).read b = m.read b := by
  have hc : ∀ m' : Memory, (Memory.consCell a v m').read b = m'.read b := by
    intro m'
    unfold Memory.consCell
    split <;> simp [Memory.read, Ne.symm h]
  induction m with
  | nil => exact hc []
  | cons cell rest ih =>
    obtain ⟨k, u⟩ := cell
    unfold Memory.write
    split
    · exact hc _
    · split
      · subst_vars; rw [hc]; simp [Memory.read, Ne.symm h]
      · simp only [Memory.read, ih]

/-- What a byte reads as after consecutive bytes are written to a canonical memory. -/
theorem Memory.read_writeBytes {data : List Byte} {a b : Nat} {m : Memory} (ha : a + data.length ≤ 0x10000)
    (hm : m.wf = true) :
    (m.writeBytes a data).read b = if h : a ≤ b ∧ b < a + data.length then data[b - a]'(by omega) else m.read b := by
  induction data generalizing a m with
  | nil => simp [Memory.writeBytes]
  | cons v vs ih =>
    simp only [List.length_cons] at ha ⊢
    simp only [Memory.writeBytes]
    rw [ih (by omega) (Memory.wf_write (by omega) hm), Memory.read_write (lo := 0) hm]
    by_cases h1 : b = a
    · subst h1; simp
    · by_cases h2 : a + 1 ≤ b ∧ b < a + 1 + vs.length
      · have h3 : a ≤ b ∧ b < a + (vs.length + 1) := by omega
        have h4 : b - a = (b - (a + 1)) + 1 := by omega
        simp [h2, h3, h4]
      · have h3 : ¬(a ≤ b ∧ b < a + (vs.length + 1)) := by omega
        rw [dif_neg h2, dif_neg h3, if_neg h1]

/-! ## Equal memories are equal lists -/

/-- Two canonical memories that read the same everywhere are the same list. -/
theorem Memory.ext_of_read {lo : Nat} {m m' : Memory} (hm : Memory.wfFrom lo m = true) (hm' : Memory.wfFrom lo m' = true)
    (h : ∀ a, m.read a = m'.read a) : m = m' := by
  induction m generalizing lo m' with
  | nil =>
    cases m' with
    | nil => rfl
    | cons cell rest =>
      obtain ⟨k, v⟩ := cell
      have hv := (Memory.wfFrom_cons.1 hm').2.2.1
      have := h k
      simp [Memory.read] at this
      exact absurd this.symm hv
  | cons cell rest ih =>
    obtain ⟨k, v⟩ := cell
    have hk := Memory.wfFrom_cons.1 hm
    cases m' with
    | nil =>
      have := h k
      simp [Memory.read] at this
      exact absurd this hk.2.2.1
    | cons cell' rest' =>
      obtain ⟨k', v'⟩ := cell'
      have hk' := Memory.wfFrom_cons.1 hm'
      have hkk : k = k' := by
        rcases Nat.lt_trichotomy k k' with hlt | heq | hgt
        · have h0 : Memory.read ((k', v') :: rest') k = 0x00 :=
            Memory.read_below (Memory.wfFrom_cons.2 ⟨le_refl k', hk'.2⟩) hlt
          have h1 := h k
          rw [h0] at h1
          simp [Memory.read] at h1
          exact absurd h1 hk.2.2.1
        · exact heq
        · have h0 : Memory.read ((k, v) :: rest) k' = 0x00 :=
            Memory.read_below (Memory.wfFrom_cons.2 ⟨le_refl k, hk.2⟩) hgt
          have h1 := h k'
          rw [h0] at h1
          simp [Memory.read] at h1
          exact absurd h1.symm hk'.2.2.1
      subst hkk
      have hv : v = v' := by simpa [Memory.read] using h k
      subst hv
      have hrest : rest = rest' := by
        refine ih hk.2.2.2 hk'.2.2.2 fun a => ?_
        by_cases ha : k = a
        · subst ha
          rw [Memory.read_below hk.2.2.2 (by omega), Memory.read_below hk'.2.2.2 (by omega)]
        · simpa [Memory.read, ha] using h a
      rw [hrest]

end Sys2Proof.Machine
end

