-- ==== Sys2Proof/Laws/Ops.lean ====
section
/-! SUPPORT. What each shared operation can do: one lemma per operation, so that no proof unfolds it. -/

namespace Sys2Proof.Machine

/-! ## Outcomes -/

@[simp] theorem Result.andThen_next (s : State) (k : State → Result) : Result.andThen (.next s) k = k s := rfl
@[simp] theorem Result.andThen_fault (x : Fault) (k : State → Result) : Result.andThen (.fault x) k = .fault x := rfl
@[simp] theorem Result.andThen_refused (x : Refusal) (k : State → Result) :
    Result.andThen (.refused x) k = .refused x := rfl

/-- A sequence answers a next state exactly when both parts do. -/
theorem Result.andThen_eq_next {r : Result} {k : State → Result} {t : State} :
    r.andThen k = .next t ↔ ∃ u, r = .next u ∧ k u = .next t := by
  cases r <;> simp

/-- A sequence is refused only if one of its parts is. -/
theorem Result.andThen_ne_refused {r : Result} {k : State → Result} {x : Refusal} (hr : r ≠ .refused x)
    (hk : ∀ u, k u ≠ .refused x) : r.andThen k ≠ .refused x := by
  cases r with
  | next u => exact hk u
  | fault _ => simp
  | refused y => simpa using hr

@[simp] theorem finish_eq (n : Word) (s : State) : finish n s = .next (s.advance n) := rfl

/-! ## The bus -/

/-- `write8` faults below the boundary and otherwise stores the byte. -/
theorem State.write8_of_lt {s : State} {a : Word} {v : Byte} (h : a.toNat < 0x8000) :
    s.write8 a v = .fault .fatalWriteProtectionError := by
  simp [State.write8, Config.romBoundary, h, raiseFault]

theorem State.write8_of_ge {s : State} {a : Word} {v : Byte} (h : 0x8000 ≤ a.toNat) :
    s.write8 a v = .next { s with mem := s.mem.write a.toNat v } := by
  simp [State.write8, Config.romBoundary, Nat.not_lt.2 h]

/-- Everything `write8` can do. -/
theorem State.write8_cases (s : State) (a : Word) (v : Byte) :
    (a.toNat < 0x8000 ∧ s.write8 a v = .fault .fatalWriteProtectionError) ∨
    (0x8000 ≤ a.toNat ∧ s.write8 a v = .next { s with mem := s.mem.write a.toNat v }) := by
  rcases Nat.lt_or_ge a.toNat 0x8000 with h | h
  · exact .inl ⟨h, State.write8_of_lt h⟩
  · exact .inr ⟨h, State.write8_of_ge h⟩

/-- Everything `write16` can do. -/
theorem State.write16_cases (s : State) (a v : Word) :
    (a.toNat < 0x8000 ∧ s.write16 a v = .fault .fatalWriteProtectionError) ∨
    (a = 0xFFFF ∧ s.write16 a v = .fault .fatalBoundsError) ∨
    (0x8000 ≤ a.toNat ∧ a ≠ 0xFFFF ∧ s.write16 a v =
      .next { s with mem := (s.mem.write a.toNat (loByte v)).write (a.toNat + 1) (hiByte v) }) := by
  rcases Nat.lt_or_ge a.toNat 0x8000 with h | h
  · exact .inl ⟨h, by simp [State.write16, Config.romBoundary, h, raiseFault]⟩
  · by_cases ha : a = 0xFFFF
    · exact .inr (.inl ⟨ha, by subst ha; simp [State.write16, Config.romBoundary, raiseFault]⟩)
    · exact .inr (.inr ⟨h, ha, by
        rw [State.write16, Config.romBoundary, if_neg (Nat.not_lt.2 h), if_neg ha]⟩)

theorem State.read16_of_ne {s : State} {a : Word} (h : a ≠ 0xFFFF) :
    s.read16 a = .ok (wordOf (s.read8 (a + 1)) (s.read8 a)) := by
  rw [State.read16, if_neg h]

theorem State.read16_top (s : State) : s.read16 0xFFFF = .error .fatalBoundsError := by
  rw [State.read16, if_pos rfl]

/-- Everything `withRead16` can do. -/
theorem State.withRead16_cases (s : State) (a : Word) (k : Word → Result) :
    (a = 0xFFFF ∧ s.withRead16 a k = .fault .fatalBoundsError) ∨
    (a ≠ 0xFFFF ∧ s.withRead16 a k = k (wordOf (s.read8 (a + 1)) (s.read8 a))) := by
  by_cases h : a = 0xFFFF
  · subst h; exact .inl ⟨rfl, by rw [State.withRead16, State.read16_top]; rfl⟩
  · exact .inr ⟨h, by rw [State.withRead16, State.read16_of_ne h]⟩

/-! ## The stack -/

/-- Everything `push16` can do. -/
theorem State.push16_cases (s : State) (v : Word) :
    ((s.sp - 2).toNat < 0x8000 ∧ s.push16 v = .fault .fatalWriteProtectionError) ∨
    (s.sp - 2 = 0xFFFF ∧ s.push16 v = .fault .fatalBoundsError) ∨
    (0x8000 ≤ (s.sp - 2).toNat ∧ s.sp - 2 ≠ 0xFFFF ∧ s.push16 v =
      .next { s with
        sp := s.sp - 2
        mem := (s.mem.write (s.sp - 2).toNat (loByte v)).write ((s.sp - 2).toNat + 1) (hiByte v) }) :=
  State.write16_cases { s with sp := s.sp - 2 } (s.sp - 2) v

/-- Everything `withPop16` can do. -/
theorem State.withPop16_cases (s : State) (k : Word → State → Result) :
    (s.sp = 0xFFFF ∧ s.withPop16 k = .fault .fatalBoundsError) ∨
    (s.sp ≠ 0xFFFF ∧
      s.withPop16 k = k (wordOf (s.read8 (s.sp + 1)) (s.read8 s.sp)) { s with sp := s.sp + 2 }) :=
  State.withRead16_cases s s.sp _

/-! ## Operands -/

/-- Everything writing an operand can do. -/
theorem State.setOperand_cases (s : State) (o : Operand8) (v : Byte) :
    (∃ r, o = .reg r ∧ s.setOperand o v = .next (s.setReg r v)) ∨
    (o = .atHl ∧ s.hl.toNat < 0x8000 ∧ s.setOperand o v = .fault .fatalWriteProtectionError) ∨
    (o = .atHl ∧ 0x8000 ≤ s.hl.toNat ∧ s.setOperand o v = .next { s with mem := s.mem.write s.hl.toNat v }) := by
  cases o with
  | reg r => exact .inl ⟨r, rfl, rfl⟩
  | atHl => rcases s.write8_cases s.hl v with ⟨h, e⟩ | ⟨h, e⟩ <;> simp [State.setOperand, h, e]

/-! ## One byte read after a store -/

/-- A byte read after `write8`'s store. -/
theorem State.read8_write {s : State} (hm : s.mem.wf = true) (a b : Word) (v : Byte) :
    State.read8 { s with mem := s.mem.write a.toNat v } b = if b = a then v else s.read8 b := by
  simp only [State.read8]
  rw [Memory.read_write (lo := 0) hm]
  simp [BitVec.toNat_inj]

/-- A store to another address leaves a byte alone. -/
theorem State.read8_write_other {s : State} {a b : Word} {v : Byte} (h : b ≠ a) :
    State.read8 { s with mem := s.mem.write a.toNat v } b = s.read8 b := by
  simp only [State.read8]
  exact Memory.read_write_other (by simpa [BitVec.toNat_inj] using h)

/-- The address after one that is not the last, as a number. -/
theorem toNat_succ_of_ne {a : Word} (h : a ≠ 0xFFFF) : (a + 1).toNat = a.toNat + 1 := by
  have := a.isLt
  have h' : a.toNat ≠ 0xFFFF := fun e => h (BitVec.eq_of_toNat_eq (by simpa using e))
  have h1 : BitVec.toNat (1 : Word) = 1 := rfl
  rw [BitVec.toNat_add, h1]
  omega

end Sys2Proof.Machine
end

