-- ==== Sys2Proof/Laws/Families.lean ====
section
/-! SUPPORT. What the shared operations of the instruction families can do, and what memory holds after a word store. -/

namespace Sys2Proof.Machine

/-! ## Stores -/

/-- Everything a byte store can do. -/
theorem storeByte_cases (a : Word) (v : Byte) (n : Word) (s : State) :
    (a.toNat < 0x8000 ∧ storeByte a v n s = .fault .fatalWriteProtectionError) ∨
    (0x8000 ≤ a.toNat ∧ storeByte a v n s = .next (State.advance { s with mem := s.mem.write a.toNat v } n)) := by
  rcases s.write8_cases a v with ⟨h, e⟩ | ⟨h, e⟩ <;> simp [storeByte, h, e]

/-- Everything a store with an adjustment of `HL` can do. -/
theorem storeThenAdjustHl_cases (delta : Word) (s : State) :
    (s.hl.toNat < 0x8000 ∧ storeThenAdjustHl delta s = .fault .fatalWriteProtectionError) ∨
    (0x8000 ≤ s.hl.toNat ∧ storeThenAdjustHl delta s =
      .next (State.advance (State.setHl { s with mem := s.mem.write s.hl.toNat s.a } (s.hl + delta)) 1)) := by
  rcases s.write8_cases s.hl s.a with ⟨h, e⟩ | ⟨h, e⟩ <;> simp [storeThenAdjustHl, h, e]

/-- What the operations that write an operand after computing from it can do: the three ways writing an operand can go. -/
theorem andThen_setOperand_cases (s : State) (o : Operand8) (v : Byte) (k : State → Result) :
    (∃ r, o = .reg r ∧ (s.setOperand o v).andThen k = k (s.setReg r v)) ∨
    (o = .atHl ∧ s.hl.toNat < 0x8000 ∧ (s.setOperand o v).andThen k = .fault .fatalWriteProtectionError) ∨
    (o = .atHl ∧ 0x8000 ≤ s.hl.toNat ∧
      (s.setOperand o v).andThen k = k { s with mem := s.mem.write s.hl.toNat v }) := by
  rcases s.setOperand_cases o v with ⟨r, ho, e⟩ | ⟨ho, h, e⟩ | ⟨ho, h, e⟩
  · exact .inl ⟨r, ho, by rw [e]; rfl⟩
  · exact .inr (.inl ⟨ho, h, by rw [e]; rfl⟩)
  · exact .inr (.inr ⟨ho, h, by rw [e]; rfl⟩)

/-! ## The stack -/

/-- Everything a push of a pair can do. -/
theorem pushPair_cases (p : StackPair) (s : State) :
    ((s.sp - 2).toNat < 0x8000 ∧ pushPair p s = .fault .fatalWriteProtectionError) ∨
    (s.sp - 2 = 0xFFFF ∧ pushPair p s = .fault .fatalBoundsError) ∨
    (0x8000 ≤ (s.sp - 2).toNat ∧ s.sp - 2 ≠ 0xFFFF ∧ pushPair p s =
      .next (State.advance
        { s with
          sp := s.sp - 2
          mem := (s.mem.write (s.sp - 2).toNat (loByte (s.stackPair p))).write ((s.sp - 2).toNat + 1)
            (hiByte (s.stackPair p)) } 1)) := by
  rcases s.push16_cases (s.stackPair p) with ⟨h, e⟩ | ⟨h, e⟩ | ⟨h, h', e⟩
  · exact .inl ⟨h, by rw [pushPair, e]; rfl⟩
  · exact .inr (.inl ⟨h, by rw [pushPair, e]; rfl⟩)
  · exact .inr (.inr ⟨h, h', by rw [pushPair, e]; rfl⟩)

/-- Everything a pop into a pair can do. -/
theorem popPair_cases (p : StackPair) (s : State) :
    (s.sp = 0xFFFF ∧ popPair p s = .fault .fatalBoundsError) ∨
    (s.sp ≠ 0xFFFF ∧ popPair p s = .next (State.advance
      (State.setStackPair { s with sp := s.sp + 2 } p (wordOf (s.read8 (s.sp + 1)) (s.read8 s.sp))) 1)) :=
  s.withPop16_cases _

/-- Everything a call can do. -/
theorem callSubroutine_cases (target n : Word) (s : State) :
    ((s.sp - 2).toNat < 0x8000 ∧ callSubroutine target n s = .fault .fatalWriteProtectionError) ∨
    (s.sp - 2 = 0xFFFF ∧ callSubroutine target n s = .fault .fatalBoundsError) ∨
    (0x8000 ≤ (s.sp - 2).toNat ∧ s.sp - 2 ≠ 0xFFFF ∧ callSubroutine target n s =
      .next (State.jumpTo
        { s with
          sp := s.sp - 2
          mem := (s.mem.write (s.sp - 2).toNat (loByte (s.pc + n))).write ((s.sp - 2).toNat + 1) (hiByte (s.pc + n)) }
        target)) := by
  rcases s.push16_cases (s.nextPc n) with ⟨h, e⟩ | ⟨h, e⟩ | ⟨h, h', e⟩
  · exact .inl ⟨h, by rw [callSubroutine, e]; rfl⟩
  · exact .inr (.inl ⟨h, by rw [callSubroutine, e]; rfl⟩)
  · exact .inr (.inr ⟨h, h', by rw [callSubroutine, e]; rfl⟩)

/-- Everything a return can do. -/
theorem returnTo_cases (s : State) :
    (s.sp = 0xFFFF ∧ returnTo s = .fault .fatalBoundsError) ∨
    (s.sp ≠ 0xFFFF ∧ returnTo s =
      .next (State.jumpTo { s with sp := s.sp + 2 } (wordOf (s.read8 (s.sp + 1)) (s.read8 s.sp)))) :=
  s.withPop16_cases _

/-- A jump under a condition: the target, or the address after the instruction. -/
theorem jumpIf_cases (cc : Cond) (target n : Word) (s : State) :
    (s.holds cc = true ∧ jumpIf cc target n s = .next (s.jumpTo target)) ∨
    (s.holds cc = false ∧ jumpIf cc target n s = .next (s.advance n)) := by
  cases h : s.holds cc <;> simp [jumpIf, jump, h]

/-! ## Memory after a word store -/

/-- A byte read after the two bytes of a word are stored. -/
theorem State.read8_writeWord {s : State} (hm : s.mem.wf = true) {a : Word} (ha : a ≠ 0xFFFF) (v x : Word) :
    State.read8 { s with mem := (s.mem.write a.toNat (loByte v)).write (a.toNat + 1) (hiByte v) } x =
      if x = a + 1 then hiByte v else if x = a then loByte v else s.read8 x := by
  have h := toNat_succ_of_ne ha
  rw [← h]
  have h1 := State.read8_write (s := { s with mem := s.mem.write a.toNat (loByte v) }) (Memory.wf_write_word hm) (a + 1) x
    (hiByte v)
  rw [State.read8_write hm] at h1
  exact h1

/-- Putting bytes into memory from outside keeps its canonical form. -/
theorem State.wf_placeBytes (bytes : List Byte) (a : Word) (s : State) (hm : s.mem.wf = true) :
    (State.placeBytes s a bytes).mem.wf = true := by
  induction bytes generalizing a s with
  | nil => exact hm
  | cons v vs ih => exact ih (a + 1) _ (Memory.wf_write_word hm)

end Sys2Proof.Machine
end

