-- ==== Sys2Proof/Laws/Forms.lean ====
section
/-! SUPPORT. Every instruction is one of the operand forms of Decode.lean or one of the few instructions that stand alone: what holds of
each of those holds of every instruction. -/

namespace Sys2Proof

/-- What is shown of every form is shown of every instruction. -/
theorem Instr.byForms {P : Instr → Prop}
    (form_ldRegReg : ∀ (r : Reg8) (r' : Reg8), P (Forms.ldRegReg r r'))
    (form_ldRegImm : ∀ (r : Reg8) (n : Byte), P (Forms.ldRegImm r n))
    (form_ldRegAtHl : ∀ (r : Reg8), P (Forms.ldRegAtHl r))
    (form_ldAtHlReg : ∀ (r : Reg8), P (Forms.ldAtHlReg r))
    (form_ldPairImm : ∀ (p : Reg16) (n : Word), P (Forms.ldPairImm p n))
    (form_push : ∀ (p : StackPair), P (Forms.push p))
    (form_pop : ∀ (p : StackPair), P (Forms.pop p))
    (form_alu : ∀ (op : AluOp) (o : Operand8), P (Forms.alu op o))
    (form_aluImm : ∀ (op : AluOp) (n : Byte), P (Forms.aluImm op n))
    (form_inc : ∀ (o : Operand8), P (Forms.inc o))
    (form_dec : ∀ (o : Operand8), P (Forms.dec o))
    (form_addHl : ∀ (p : Reg16), P (Forms.addHl p))
    (form_incPair : ∀ (p : Reg16), P (Forms.incPair p))
    (form_decPair : ∀ (p : Reg16), P (Forms.decPair p))
    (form_rot : ∀ (op : RotOp) (o : Operand8), P (Forms.rot op o))
    (form_bit : ∀ (k : Fin 8) (o : Operand8), P (Forms.bit k o))
    (form_res : ∀ (k : Fin 8) (o : Operand8), P (Forms.res k o))
    (form_set : ∀ (k : Fin 8) (o : Operand8), P (Forms.set k o))
    (form_jp : ∀ (cc : Cond) (n : Word), P (Forms.jp cc n))
    (form_jr : ∀ (cc : Cond) (n : Byte), P (Forms.jr cc n))
    (form_call : ∀ (cc : Cond) (n : Word), P (Forms.call cc n))
    (form_ret : ∀ (cc : Cond), P (Forms.ret cc))
    (form_rst : ∀ (k : Fin 8), P (Forms.rst k))
    (form_reserved : ∀ (k : Fin 11), P (Forms.reserved k))
    (one_ldAtA16Sp : ∀ (a16 : Word), P (.ldAtA16Sp a16))
    (one_jrE8 : ∀ (e8 : Byte), P (.jrE8 e8))
    (one_ldAtHlN8 : ∀ (n8 : Byte), P (.ldAtHlN8 n8))
    (one_jpA16 : ∀ (a16 : Word), P (.jpA16 a16))
    (one_callA16 : ∀ (a16 : Word), P (.callA16 a16))
    (one_ldhAtA8A : ∀ (a8 : Byte), P (.ldhAtA8A a8))
    (one_addSpE8 : ∀ (e8 : Byte), P (.addSpE8 e8))
    (one_ldAtA16A : ∀ (a16 : Word), P (.ldAtA16A a16))
    (one_ldhAAtA8 : ∀ (a8 : Byte), P (.ldhAAtA8 a8))
    (one_ldHlSpE8 : ∀ (e8 : Byte), P (.ldHlSpE8 e8))
    (one_ldAAtA16 : ∀ (a16 : Word), P (.ldAAtA16 a16))
    (one_nop : P .nop)
    (one_ldAtBcA : P .ldAtBcA)
    (one_rlca : P .rlca)
    (one_ldAAtBc : P .ldAAtBc)
    (one_rrca : P .rrca)
    (one_stop : P .stop)
    (one_ldAtDeA : P .ldAtDeA)
    (one_rla : P .rla)
    (one_ldAAtDe : P .ldAAtDe)
    (one_rra : P .rra)
    (one_ldiAtHlA : P .ldiAtHlA)
    (one_daa : P .daa)
    (one_ldiAAtHl : P .ldiAAtHl)
    (one_cpl : P .cpl)
    (one_lddAtHlA : P .lddAtHlA)
    (one_scf : P .scf)
    (one_lddAAtHl : P .lddAAtHl)
    (one_ccf : P .ccf)
    (one_halt : P .halt)
    (one_ret : P .ret)
    (one_prefixCb : P .prefixCb)
    (one_reti : P .reti)
    (one_ldhAtCA : P .ldhAtCA)
    (one_jpHl : P .jpHl)
    (one_ldhAAtC : P .ldhAAtC)
    (one_di : P .di)
    (one_ldSpHl : P .ldSpHl)
    (one_ei : P .ei)
    (i : Instr) : P i := by
  cases i with
  | ldBcN16 n16 => exact form_ldPairImm .bc n16
  | ldBN8 n8 => exact form_ldRegImm .b n8
  | ldAtA16Sp a16 => exact one_ldAtA16Sp a16
  | ldCN8 n8 => exact form_ldRegImm .c n8
  | ldDeN16 n16 => exact form_ldPairImm .de n16
  | ldDN8 n8 => exact form_ldRegImm .d n8
  | jrE8 e8 => exact one_jrE8 e8
  | ldEN8 n8 => exact form_ldRegImm .e n8
  | jrNzE8 e8 => exact form_jr .nz e8
  | ldHlN16 n16 => exact form_ldPairImm .hl n16
  | ldHN8 n8 => exact form_ldRegImm .h n8
  | jrZE8 e8 => exact form_jr .z e8
  | ldLN8 n8 => exact form_ldRegImm .l n8
  | jrNcE8 e8 => exact form_jr .nc e8
  | ldSpN16 n16 => exact form_ldPairImm .sp n16
  | ldAtHlN8 n8 => exact one_ldAtHlN8 n8
  | jrCE8 e8 => exact form_jr .c e8
  | ldAN8 n8 => exact form_ldRegImm .a n8
  | jpNzA16 a16 => exact form_jp .nz a16
  | jpA16 a16 => exact one_jpA16 a16
  | callNzA16 a16 => exact form_call .nz a16
  | addAN8 n8 => exact form_aluImm .add n8
  | jpZA16 a16 => exact form_jp .z a16
  | callZA16 a16 => exact form_call .z a16
  | callA16 a16 => exact one_callA16 a16
  | adcAN8 n8 => exact form_aluImm .adc n8
  | jpNcA16 a16 => exact form_jp .nc a16
  | callNcA16 a16 => exact form_call .nc a16
  | subN8 n8 => exact form_aluImm .sub n8
  | jpCA16 a16 => exact form_jp .c a16
  | callCA16 a16 => exact form_call .c a16
  | sbcAN8 n8 => exact form_aluImm .sbc n8
  | ldhAtA8A a8 => exact one_ldhAtA8A a8
  | andN8 n8 => exact form_aluImm .and n8
  | addSpE8 e8 => exact one_addSpE8 e8
  | ldAtA16A a16 => exact one_ldAtA16A a16
  | xorN8 n8 => exact form_aluImm .xor n8
  | ldhAAtA8 a8 => exact one_ldhAAtA8 a8
  | orN8 n8 => exact form_aluImm .or n8
  | ldHlSpE8 e8 => exact one_ldHlSpE8 e8
  | ldAAtA16 a16 => exact one_ldAAtA16 a16
  | cpN8 n8 => exact form_aluImm .cp n8
  | nop => exact one_nop
  | ldAtBcA => exact one_ldAtBcA
  | incBc => exact form_incPair .bc
  | incB => exact form_inc (.reg .b)
  | decB => exact form_dec (.reg .b)
  | rlca => exact one_rlca
  | addHlBc => exact form_addHl .bc
  | ldAAtBc => exact one_ldAAtBc
  | decBc => exact form_decPair .bc
  | incC => exact form_inc (.reg .c)
  | decC => exact form_dec (.reg .c)
  | rrca => exact one_rrca
  | stop => exact one_stop
  | ldAtDeA => exact one_ldAtDeA
  | incDe => exact form_incPair .de
  | incD => exact form_inc (.reg .d)
  | decD => exact form_dec (.reg .d)
  | rla => exact one_rla
  | addHlDe => exact form_addHl .de
  | ldAAtDe => exact one_ldAAtDe
  | decDe => exact form_decPair .de
  | incE => exact form_inc (.reg .e)
  | decE => exact form_dec (.reg .e)
  | rra => exact one_rra
  | ldiAtHlA => exact one_ldiAtHlA
  | incHl => exact form_incPair .hl
  | incH => exact form_inc (.reg .h)
  | decH => exact form_dec (.reg .h)
  | daa => exact one_daa
  | addHlHl => exact form_addHl .hl
  | ldiAAtHl => exact one_ldiAAtHl
  | decHl => exact form_decPair .hl
  | incL => exact form_inc (.reg .l)
  | decL => exact form_dec (.reg .l)
  | cpl => exact one_cpl
  | lddAtHlA => exact one_lddAtHlA
  | incSp => exact form_incPair .sp
  | incAtHl => exact form_inc .atHl
  | decAtHl => exact form_dec .atHl
  | scf => exact one_scf
  | addHlSp => exact form_addHl .sp
  | lddAAtHl => exact one_lddAAtHl
  | decSp => exact form_decPair .sp
  | incA => exact form_inc (.reg .a)
  | decA => exact form_dec (.reg .a)
  | ccf => exact one_ccf
  | ldBB => exact form_ldRegReg .b .b
  | ldBC => exact form_ldRegReg .b .c
  | ldBD => exact form_ldRegReg .b .d
  | ldBE => exact form_ldRegReg .b .e
  | ldBH => exact form_ldRegReg .b .h
  | ldBL => exact form_ldRegReg .b .l
  | ldBAtHl => exact form_ldRegAtHl .b
  | ldBA => exact form_ldRegReg .b .a
  | ldCB => exact form_ldRegReg .c .b
  | ldCC => exact form_ldRegReg .c .c
  | ldCD => exact form_ldRegReg .c .d
  | ldCE => exact form_ldRegReg .c .e
  | ldCH => exact form_ldRegReg .c .h
  | ldCL => exact form_ldRegReg .c .l
  | ldCAtHl => exact form_ldRegAtHl .c
  | ldCA => exact form_ldRegReg .c .a
  | ldDB => exact form_ldRegReg .d .b
  | ldDC => exact form_ldRegReg .d .c
  | ldDD => exact form_ldRegReg .d .d
  | ldDE => exact form_ldRegReg .d .e
  | ldDH => exact form_ldRegReg .d .h
  | ldDL => exact form_ldRegReg .d .l
  | ldDAtHl => exact form_ldRegAtHl .d
  | ldDA => exact form_ldRegReg .d .a
  | ldEB => exact form_ldRegReg .e .b
  | ldEC => exact form_ldRegReg .e .c
  | ldED => exact form_ldRegReg .e .d
  | ldEE => exact form_ldRegReg .e .e
  | ldEH => exact form_ldRegReg .e .h
  | ldEL => exact form_ldRegReg .e .l
  | ldEAtHl => exact form_ldRegAtHl .e
  | ldEA => exact form_ldRegReg .e .a
  | ldHB => exact form_ldRegReg .h .b
  | ldHC => exact form_ldRegReg .h .c
  | ldHD => exact form_ldRegReg .h .d
  | ldHE => exact form_ldRegReg .h .e
  | ldHH => exact form_ldRegReg .h .h
  | ldHL => exact form_ldRegReg .h .l
  | ldHAtHl => exact form_ldRegAtHl .h
  | ldHA => exact form_ldRegReg .h .a
  | ldLB => exact form_ldRegReg .l .b
  | ldLC => exact form_ldRegReg .l .c
  | ldLD => exact form_ldRegReg .l .d
  | ldLE => exact form_ldRegReg .l .e
  | ldLH => exact form_ldRegReg .l .h
  | ldLL => exact form_ldRegReg .l .l
  | ldLAtHl => exact form_ldRegAtHl .l
  | ldLA => exact form_ldRegReg .l .a
  | ldAtHlB => exact form_ldAtHlReg .b
  | ldAtHlC => exact form_ldAtHlReg .c
  | ldAtHlD => exact form_ldAtHlReg .d
  | ldAtHlE => exact form_ldAtHlReg .e
  | ldAtHlH => exact form_ldAtHlReg .h
  | ldAtHlL => exact form_ldAtHlReg .l
  | halt => exact one_halt
  | ldAtHlA => exact form_ldAtHlReg .a
  | ldAB => exact form_ldRegReg .a .b
  | ldAC => exact form_ldRegReg .a .c
  | ldAD => exact form_ldRegReg .a .d
  | ldAE => exact form_ldRegReg .a .e
  | ldAH => exact form_ldRegReg .a .h
  | ldAL => exact form_ldRegReg .a .l
  | ldAAtHl => exact form_ldRegAtHl .a
  | ldAA => exact form_ldRegReg .a .a
  | addAB => exact form_alu .add (.reg .b)
  | addAC => exact form_alu .add (.reg .c)
  | addAD => exact form_alu .add (.reg .d)
  | addAE => exact form_alu .add (.reg .e)
  | addAH => exact form_alu .add (.reg .h)
  | addAL => exact form_alu .add (.reg .l)
  | addAAtHl => exact form_alu .add .atHl
  | addAA => exact form_alu .add (.reg .a)
  | adcAB => exact form_alu .adc (.reg .b)
  | adcAC => exact form_alu .adc (.reg .c)
  | adcAD => exact form_alu .adc (.reg .d)
  | adcAE => exact form_alu .adc (.reg .e)
  | adcAH => exact form_alu .adc (.reg .h)
  | adcAL => exact form_alu .adc (.reg .l)
  | adcAAtHl => exact form_alu .adc .atHl
  | adcAA => exact form_alu .adc (.reg .a)
  | subB => exact form_alu .sub (.reg .b)
  | subC => exact form_alu .sub (.reg .c)
  | subD => exact form_alu .sub (.reg .d)
  | subE => exact form_alu .sub (.reg .e)
  | subH => exact form_alu .sub (.reg .h)
  | subL => exact form_alu .sub (.reg .l)
  | subAtHl => exact form_alu .sub .atHl
  | subA => exact form_alu .sub (.reg .a)
  | sbcAB => exact form_alu .sbc (.reg .b)
  | sbcAC => exact form_alu .sbc (.reg .c)
  | sbcAD => exact form_alu .sbc (.reg .d)
  | sbcAE => exact form_alu .sbc (.reg .e)
  | sbcAH => exact form_alu .sbc (.reg .h)
  | sbcAL => exact form_alu .sbc (.reg .l)
  | sbcAAtHl => exact form_alu .sbc .atHl
  | sbcAA => exact form_alu .sbc (.reg .a)
  | andB => exact form_alu .and (.reg .b)
  | andC => exact form_alu .and (.reg .c)
  | andD => exact form_alu .and (.reg .d)
  | andE => exact form_alu .and (.reg .e)
  | andH => exact form_alu .and (.reg .h)
  | andL => exact form_alu .and (.reg .l)
  | andAtHl => exact form_alu .and .atHl
  | andA => exact form_alu .and (.reg .a)
  | xorB => exact form_alu .xor (.reg .b)
  | xorC => exact form_alu .xor (.reg .c)
  | xorD => exact form_alu .xor (.reg .d)
  | xorE => exact form_alu .xor (.reg .e)
  | xorH => exact form_alu .xor (.reg .h)
  | xorL => exact form_alu .xor (.reg .l)
  | xorAtHl => exact form_alu .xor .atHl
  | xorA => exact form_alu .xor (.reg .a)
  | orB => exact form_alu .or (.reg .b)
  | orC => exact form_alu .or (.reg .c)
  | orD => exact form_alu .or (.reg .d)
  | orE => exact form_alu .or (.reg .e)
  | orH => exact form_alu .or (.reg .h)
  | orL => exact form_alu .or (.reg .l)
  | orAtHl => exact form_alu .or .atHl
  | orA => exact form_alu .or (.reg .a)
  | cpB => exact form_alu .cp (.reg .b)
  | cpC => exact form_alu .cp (.reg .c)
  | cpD => exact form_alu .cp (.reg .d)
  | cpE => exact form_alu .cp (.reg .e)
  | cpH => exact form_alu .cp (.reg .h)
  | cpL => exact form_alu .cp (.reg .l)
  | cpAtHl => exact form_alu .cp .atHl
  | cpA => exact form_alu .cp (.reg .a)
  | retNz => exact form_ret .nz
  | popBc => exact form_pop .bc
  | pushBc => exact form_push .bc
  | rst00 => exact form_rst 0
  | retZ => exact form_ret .z
  | ret => exact one_ret
  | prefixCb => exact one_prefixCb
  | rst08 => exact form_rst 1
  | retNc => exact form_ret .nc
  | popDe => exact form_pop .de
  | illegalD3 => exact form_reserved 0
  | pushDe => exact form_push .de
  | rst10 => exact form_rst 2
  | retC => exact form_ret .c
  | reti => exact one_reti
  | illegalDB => exact form_reserved 1
  | illegalDD => exact form_reserved 2
  | rst18 => exact form_rst 3
  | popHl => exact form_pop .hl
  | ldhAtCA => exact one_ldhAtCA
  | illegalE3 => exact form_reserved 3
  | illegalE4 => exact form_reserved 4
  | pushHl => exact form_push .hl
  | rst20 => exact form_rst 4
  | jpHl => exact one_jpHl
  | illegalEB => exact form_reserved 5
  | illegalEC => exact form_reserved 6
  | illegalED => exact form_reserved 7
  | rst28 => exact form_rst 5
  | popAf => exact form_pop .af
  | ldhAAtC => exact one_ldhAAtC
  | di => exact one_di
  | illegalF4 => exact form_reserved 8
  | pushAf => exact form_push .af
  | rst30 => exact form_rst 6
  | ldSpHl => exact one_ldSpHl
  | ei => exact one_ei
  | illegalFC => exact form_reserved 9
  | illegalFD => exact form_reserved 10
  | rst38 => exact form_rst 7
  | rlcB => exact form_rot .rlc (.reg .b)
  | rlcC => exact form_rot .rlc (.reg .c)
  | rlcD => exact form_rot .rlc (.reg .d)
  | rlcE => exact form_rot .rlc (.reg .e)
  | rlcH => exact form_rot .rlc (.reg .h)
  | rlcL => exact form_rot .rlc (.reg .l)
  | rlcAtHl => exact form_rot .rlc .atHl
  | rlcA => exact form_rot .rlc (.reg .a)
  | rrcB => exact form_rot .rrc (.reg .b)
  | rrcC => exact form_rot .rrc (.reg .c)
  | rrcD => exact form_rot .rrc (.reg .d)
  | rrcE => exact form_rot .rrc (.reg .e)
  | rrcH => exact form_rot .rrc (.reg .h)
  | rrcL => exact form_rot .rrc (.reg .l)
  | rrcAtHl => exact form_rot .rrc .atHl
  | rrcA => exact form_rot .rrc (.reg .a)
  | rlB => exact form_rot .rl (.reg .b)
  | rlC => exact form_rot .rl (.reg .c)
  | rlD => exact form_rot .rl (.reg .d)
  | rlE => exact form_rot .rl (.reg .e)
  | rlH => exact form_rot .rl (.reg .h)
  | rlL => exact form_rot .rl (.reg .l)
  | rlAtHl => exact form_rot .rl .atHl
  | rlA => exact form_rot .rl (.reg .a)
  | rrB => exact form_rot .rr (.reg .b)
  | rrC => exact form_rot .rr (.reg .c)
  | rrD => exact form_rot .rr (.reg .d)
  | rrE => exact form_rot .rr (.reg .e)
  | rrH => exact form_rot .rr (.reg .h)
  | rrL => exact form_rot .rr (.reg .l)
  | rrAtHl => exact form_rot .rr .atHl
  | rrA => exact form_rot .rr (.reg .a)
  | slaB => exact form_rot .sla (.reg .b)
  | slaC => exact form_rot .sla (.reg .c)
  | slaD => exact form_rot .sla (.reg .d)
  | slaE => exact form_rot .sla (.reg .e)
  | slaH => exact form_rot .sla (.reg .h)
  | slaL => exact form_rot .sla (.reg .l)
  | slaAtHl => exact form_rot .sla .atHl
  | slaA => exact form_rot .sla (.reg .a)
  | sraB => exact form_rot .sra (.reg .b)
  | sraC => exact form_rot .sra (.reg .c)
  | sraD => exact form_rot .sra (.reg .d)
  | sraE => exact form_rot .sra (.reg .e)
  | sraH => exact form_rot .sra (.reg .h)
  | sraL => exact form_rot .sra (.reg .l)
  | sraAtHl => exact form_rot .sra .atHl
  | sraA => exact form_rot .sra (.reg .a)
  | swapB => exact form_rot .swap (.reg .b)
  | swapC => exact form_rot .swap (.reg .c)
  | swapD => exact form_rot .swap (.reg .d)
  | swapE => exact form_rot .swap (.reg .e)
  | swapH => exact form_rot .swap (.reg .h)
  | swapL => exact form_rot .swap (.reg .l)
  | swapAtHl => exact form_rot .swap .atHl
  | swapA => exact form_rot .swap (.reg .a)
  | srlB => exact form_rot .srl (.reg .b)
  | srlC => exact form_rot .srl (.reg .c)
  | srlD => exact form_rot .srl (.reg .d)
  | srlE => exact form_rot .srl (.reg .e)
  | srlH => exact form_rot .srl (.reg .h)
  | srlL => exact form_rot .srl (.reg .l)
  | srlAtHl => exact form_rot .srl .atHl
  | srlA => exact form_rot .srl (.reg .a)
  | bit0B => exact form_bit 0 (.reg .b)
  | bit0C => exact form_bit 0 (.reg .c)
  | bit0D => exact form_bit 0 (.reg .d)
  | bit0E => exact form_bit 0 (.reg .e)
  | bit0H => exact form_bit 0 (.reg .h)
  | bit0L => exact form_bit 0 (.reg .l)
  | bit0AtHl => exact form_bit 0 .atHl
  | bit0A => exact form_bit 0 (.reg .a)
  | bit1B => exact form_bit 1 (.reg .b)
  | bit1C => exact form_bit 1 (.reg .c)
  | bit1D => exact form_bit 1 (.reg .d)
  | bit1E => exact form_bit 1 (.reg .e)
  | bit1H => exact form_bit 1 (.reg .h)
  | bit1L => exact form_bit 1 (.reg .l)
  | bit1AtHl => exact form_bit 1 .atHl
  | bit1A => exact form_bit 1 (.reg .a)
  | bit2B => exact form_bit 2 (.reg .b)
  | bit2C => exact form_bit 2 (.reg .c)
  | bit2D => exact form_bit 2 (.reg .d)
  | bit2E => exact form_bit 2 (.reg .e)
  | bit2H => exact form_bit 2 (.reg .h)
  | bit2L => exact form_bit 2 (.reg .l)
  | bit2AtHl => exact form_bit 2 .atHl
  | bit2A => exact form_bit 2 (.reg .a)
  | bit3B => exact form_bit 3 (.reg .b)
  | bit3C => exact form_bit 3 (.reg .c)
  | bit3D => exact form_bit 3 (.reg .d)
  | bit3E => exact form_bit 3 (.reg .e)
  | bit3H => exact form_bit 3 (.reg .h)
  | bit3L => exact form_bit 3 (.reg .l)
  | bit3AtHl => exact form_bit 3 .atHl
  | bit3A => exact form_bit 3 (.reg .a)
  | bit4B => exact form_bit 4 (.reg .b)
  | bit4C => exact form_bit 4 (.reg .c)
  | bit4D => exact form_bit 4 (.reg .d)
  | bit4E => exact form_bit 4 (.reg .e)
  | bit4H => exact form_bit 4 (.reg .h)
  | bit4L => exact form_bit 4 (.reg .l)
  | bit4AtHl => exact form_bit 4 .atHl
  | bit4A => exact form_bit 4 (.reg .a)
  | bit5B => exact form_bit 5 (.reg .b)
  | bit5C => exact form_bit 5 (.reg .c)
  | bit5D => exact form_bit 5 (.reg .d)
  | bit5E => exact form_bit 5 (.reg .e)
  | bit5H => exact form_bit 5 (.reg .h)
  | bit5L => exact form_bit 5 (.reg .l)
  | bit5AtHl => exact form_bit 5 .atHl
  | bit5A => exact form_bit 5 (.reg .a)
  | bit6B => exact form_bit 6 (.reg .b)
  | bit6C => exact form_bit 6 (.reg .c)
  | bit6D => exact form_bit 6 (.reg .d)
  | bit6E => exact form_bit 6 (.reg .e)
  | bit6H => exact form_bit 6 (.reg .h)
  | bit6L => exact form_bit 6 (.reg .l)
  | bit6AtHl => exact form_bit 6 .atHl
  | bit6A => exact form_bit 6 (.reg .a)
  | bit7B => exact form_bit 7 (.reg .b)
  | bit7C => exact form_bit 7 (.reg .c)
  | bit7D => exact form_bit 7 (.reg .d)
  | bit7E => exact form_bit 7 (.reg .e)
  | bit7H => exact form_bit 7 (.reg .h)
  | bit7L => exact form_bit 7 (.reg .l)
  | bit7AtHl => exact form_bit 7 .atHl
  | bit7A => exact form_bit 7 (.reg .a)
  | res0B => exact form_res 0 (.reg .b)
  | res0C => exact form_res 0 (.reg .c)
  | res0D => exact form_res 0 (.reg .d)
  | res0E => exact form_res 0 (.reg .e)
  | res0H => exact form_res 0 (.reg .h)
  | res0L => exact form_res 0 (.reg .l)
  | res0AtHl => exact form_res 0 .atHl
  | res0A => exact form_res 0 (.reg .a)
  | res1B => exact form_res 1 (.reg .b)
  | res1C => exact form_res 1 (.reg .c)
  | res1D => exact form_res 1 (.reg .d)
  | res1E => exact form_res 1 (.reg .e)
  | res1H => exact form_res 1 (.reg .h)
  | res1L => exact form_res 1 (.reg .l)
  | res1AtHl => exact form_res 1 .atHl
  | res1A => exact form_res 1 (.reg .a)
  | res2B => exact form_res 2 (.reg .b)
  | res2C => exact form_res 2 (.reg .c)
  | res2D => exact form_res 2 (.reg .d)
  | res2E => exact form_res 2 (.reg .e)
  | res2H => exact form_res 2 (.reg .h)
  | res2L => exact form_res 2 (.reg .l)
  | res2AtHl => exact form_res 2 .atHl
  | res2A => exact form_res 2 (.reg .a)
  | res3B => exact form_res 3 (.reg .b)
  | res3C => exact form_res 3 (.reg .c)
  | res3D => exact form_res 3 (.reg .d)
  | res3E => exact form_res 3 (.reg .e)
  | res3H => exact form_res 3 (.reg .h)
  | res3L => exact form_res 3 (.reg .l)
  | res3AtHl => exact form_res 3 .atHl
  | res3A => exact form_res 3 (.reg .a)
  | res4B => exact form_res 4 (.reg .b)
  | res4C => exact form_res 4 (.reg .c)
  | res4D => exact form_res 4 (.reg .d)
  | res4E => exact form_res 4 (.reg .e)
  | res4H => exact form_res 4 (.reg .h)
  | res4L => exact form_res 4 (.reg .l)
  | res4AtHl => exact form_res 4 .atHl
  | res4A => exact form_res 4 (.reg .a)
  | res5B => exact form_res 5 (.reg .b)
  | res5C => exact form_res 5 (.reg .c)
  | res5D => exact form_res 5 (.reg .d)
  | res5E => exact form_res 5 (.reg .e)
  | res5H => exact form_res 5 (.reg .h)
  | res5L => exact form_res 5 (.reg .l)
  | res5AtHl => exact form_res 5 .atHl
  | res5A => exact form_res 5 (.reg .a)
  | res6B => exact form_res 6 (.reg .b)
  | res6C => exact form_res 6 (.reg .c)
  | res6D => exact form_res 6 (.reg .d)
  | res6E => exact form_res 6 (.reg .e)
  | res6H => exact form_res 6 (.reg .h)
  | res6L => exact form_res 6 (.reg .l)
  | res6AtHl => exact form_res 6 .atHl
  | res6A => exact form_res 6 (.reg .a)
  | res7B => exact form_res 7 (.reg .b)
  | res7C => exact form_res 7 (.reg .c)
  | res7D => exact form_res 7 (.reg .d)
  | res7E => exact form_res 7 (.reg .e)
  | res7H => exact form_res 7 (.reg .h)
  | res7L => exact form_res 7 (.reg .l)
  | res7AtHl => exact form_res 7 .atHl
  | res7A => exact form_res 7 (.reg .a)
  | set0B => exact form_set 0 (.reg .b)
  | set0C => exact form_set 0 (.reg .c)
  | set0D => exact form_set 0 (.reg .d)
  | set0E => exact form_set 0 (.reg .e)
  | set0H => exact form_set 0 (.reg .h)
  | set0L => exact form_set 0 (.reg .l)
  | set0AtHl => exact form_set 0 .atHl
  | set0A => exact form_set 0 (.reg .a)
  | set1B => exact form_set 1 (.reg .b)
  | set1C => exact form_set 1 (.reg .c)
  | set1D => exact form_set 1 (.reg .d)
  | set1E => exact form_set 1 (.reg .e)
  | set1H => exact form_set 1 (.reg .h)
  | set1L => exact form_set 1 (.reg .l)
  | set1AtHl => exact form_set 1 .atHl
  | set1A => exact form_set 1 (.reg .a)
  | set2B => exact form_set 2 (.reg .b)
  | set2C => exact form_set 2 (.reg .c)
  | set2D => exact form_set 2 (.reg .d)
  | set2E => exact form_set 2 (.reg .e)
  | set2H => exact form_set 2 (.reg .h)
  | set2L => exact form_set 2 (.reg .l)
  | set2AtHl => exact form_set 2 .atHl
  | set2A => exact form_set 2 (.reg .a)
  | set3B => exact form_set 3 (.reg .b)
  | set3C => exact form_set 3 (.reg .c)
  | set3D => exact form_set 3 (.reg .d)
  | set3E => exact form_set 3 (.reg .e)
  | set3H => exact form_set 3 (.reg .h)
  | set3L => exact form_set 3 (.reg .l)
  | set3AtHl => exact form_set 3 .atHl
  | set3A => exact form_set 3 (.reg .a)
  | set4B => exact form_set 4 (.reg .b)
  | set4C => exact form_set 4 (.reg .c)
  | set4D => exact form_set 4 (.reg .d)
  | set4E => exact form_set 4 (.reg .e)
  | set4H => exact form_set 4 (.reg .h)
  | set4L => exact form_set 4 (.reg .l)
  | set4AtHl => exact form_set 4 .atHl
  | set4A => exact form_set 4 (.reg .a)
  | set5B => exact form_set 5 (.reg .b)
  | set5C => exact form_set 5 (.reg .c)
  | set5D => exact form_set 5 (.reg .d)
  | set5E => exact form_set 5 (.reg .e)
  | set5H => exact form_set 5 (.reg .h)
  | set5L => exact form_set 5 (.reg .l)
  | set5AtHl => exact form_set 5 .atHl
  | set5A => exact form_set 5 (.reg .a)
  | set6B => exact form_set 6 (.reg .b)
  | set6C => exact form_set 6 (.reg .c)
  | set6D => exact form_set 6 (.reg .d)
  | set6E => exact form_set 6 (.reg .e)
  | set6H => exact form_set 6 (.reg .h)
  | set6L => exact form_set 6 (.reg .l)
  | set6AtHl => exact form_set 6 .atHl
  | set6A => exact form_set 6 (.reg .a)
  | set7B => exact form_set 7 (.reg .b)
  | set7C => exact form_set 7 (.reg .c)
  | set7D => exact form_set 7 (.reg .d)
  | set7E => exact form_set 7 (.reg .e)
  | set7H => exact form_set 7 (.reg .h)
  | set7L => exact form_set 7 (.reg .l)
  | set7AtHl => exact form_set 7 .atHl
  | set7A => exact form_set 7 (.reg .a)

end Sys2Proof
end

