-- ==== Sys2Proof/Laws/Host.lean ====
section
/-! SUPPORT. What the host's operations leave alone and what they can do, and what is known of a state after a fatal fault. -/

namespace Sys2Proof.Machine

/-! ## After a fatal fault -/

@[simp] theorem State.afterFault_faulted (s : State) : s.afterFault.faulted = true := rfl

/-! ## Events and mounts -/

/-- No event writes the faulted mark (R33). -/
@[simp] theorem applyEvent_faulted (s : State) (ev : EnvEvent) : (applyEvent s ev).faulted = s.faulted := by
  cases ev with
  | write address v => simp only [applyEvent]; split <;> rfl
  | wake => rfl
  | setIme v => rfl

/-- No list of events writes the faulted mark (R33). -/
@[simp] theorem applyEnv_faulted (evs : List EnvEvent) : ∀ s : State, (applyEnv evs s).faulted = s.faulted := by
  induction evs with
  | nil => exact fun _ => rfl
  | cons ev evs ih => intro s; rw [applyEnv, ih, applyEvent_faulted]

/-- Everything a mount can do (R58, R344). -/
theorem mountBank_cases (base : Nat) (data : List Byte) (s : State) :
    (data.length ≤ Config.bankSize ∧ mountBank base data s = .ok { s with mem := s.mem.writeBytes base data }) ∨
    (Config.bankSize < data.length ∧ mountBank base data s = .error .invalidBankSize) := by
  unfold mountBank
  by_cases h : data.length ≤ Config.bankSize
  · exact .inl ⟨h, if_pos h⟩
  · exact .inr ⟨Nat.lt_of_not_le h, if_neg h⟩

/-! ## Ticks -/

/-- The three things a tick can do (R383). -/
theorem tick_cases (env : List EnvEvent) (s : State) :
    (∃ t, step s = .next t ∧ tick env s = applyEnv env t) ∨
    (∃ x, step s = .fault x ∧ tick env s = s.afterFault) ∨
    (∃ r, step s = .refused r ∧ tick env s = s) := by
  unfold tick
  cases h : step s with
  | next t => exact .inl ⟨t, rfl, rfl⟩
  | fault x => exact .inr (.inl ⟨x, rfl, rfl⟩)
  | refused r => exact .inr (.inr ⟨r, rfl, rfl⟩)

end Sys2Proof.Machine
end

