-- ==== Sys2Proof/Tests/Slice0.lean ====
section
/-! SUPPORT. Tests. Every expected value is taken from the spec: the encodings of 30_encoding.md, and the example of the rule that a
test's docstring names. The last section shows, for every statement that has hypotheses, a state and operands that meet them. -/

namespace Sys2Proof.Tests

open Machine Cert

/-! ## Decoding: every table entry, from the words written out from 30_encoding.md R101 and R102 -/

/-- The bytes hold exactly this instruction. -/
def decodesTo (bytes : List Byte) (i : Instr) : Bool := decide (decode bytes = .instr i [])

theorem test_decode_base_00_to_0F :
    (decodesTo [0x00] .nop
      && decodesTo [0x01, 0x34, 0x12] (.ldBcN16 0x1234)
      && decodesTo [0x02] .ldAtBcA
      && decodesTo [0x03] .incBc
      && decodesTo [0x04] .incB
      && decodesTo [0x05] .decB
      && decodesTo [0x06, 0x9A] (.ldBN8 0x9A)
      && decodesTo [0x07] .rlca
      && decodesTo [0x08, 0x34, 0x12] (.ldAtA16Sp 0x1234)
      && decodesTo [0x09] .addHlBc
      && decodesTo [0x0A] .ldAAtBc
      && decodesTo [0x0B] .decBc
      && decodesTo [0x0C] .incC
      && decodesTo [0x0D] .decC
      && decodesTo [0x0E, 0x9A] (.ldCN8 0x9A)
      && decodesTo [0x0F] .rrca) = true := by decide

theorem test_decode_base_10_to_1F :
    (decodesTo [0x10, 0x55] .stop
      && decodesTo [0x11, 0x34, 0x12] (.ldDeN16 0x1234)
      && decodesTo [0x12] .ldAtDeA
      && decodesTo [0x13] .incDe
      && decodesTo [0x14] .incD
      && decodesTo [0x15] .decD
      && decodesTo [0x16, 0x9A] (.ldDN8 0x9A)
      && decodesTo [0x17] .rla
      && decodesTo [0x18, 0x9A] (.jrE8 0x9A)
      && decodesTo [0x19] .addHlDe
      && decodesTo [0x1A] .ldAAtDe
      && decodesTo [0x1B] .decDe
      && decodesTo [0x1C] .incE
      && decodesTo [0x1D] .decE
      && decodesTo [0x1E, 0x9A] (.ldEN8 0x9A)
      && decodesTo [0x1F] .rra) = true := by decide

theorem test_decode_base_20_to_2F :
    (decodesTo [0x20, 0x9A] (.jrNzE8 0x9A)
      && decodesTo [0x21, 0x34, 0x12] (.ldHlN16 0x1234)
      && decodesTo [0x22] .ldiAtHlA
      && decodesTo [0x23] .incHl
      && decodesTo [0x24] .incH
      && decodesTo [0x25] .decH
      && decodesTo [0x26, 0x9A] (.ldHN8 0x9A)
      && decodesTo [0x27] .daa
      && decodesTo [0x28, 0x9A] (.jrZE8 0x9A)
      && decodesTo [0x29] .addHlHl
      && decodesTo [0x2A] .ldiAAtHl
      && decodesTo [0x2B] .decHl
      && decodesTo [0x2C] .incL
      && decodesTo [0x2D] .decL
      && decodesTo [0x2E, 0x9A] (.ldLN8 0x9A)
      && decodesTo [0x2F] .cpl) = true := by decide

theorem test_decode_base_30_to_3F :
    (decodesTo [0x30, 0x9A] (.jrNcE8 0x9A)
      && decodesTo [0x31, 0x34, 0x12] (.ldSpN16 0x1234)
      && decodesTo [0x32] .lddAtHlA
      && decodesTo [0x33] .incSp
      && decodesTo [0x34] .incAtHl
      && decodesTo [0x35] .decAtHl
      && decodesTo [0x36, 0x9A] (.ldAtHlN8 0x9A)
      && decodesTo [0x37] .scf
      && decodesTo [0x38, 0x9A] (.jrCE8 0x9A)
      && decodesTo [0x39] .addHlSp
      && decodesTo [0x3A] .lddAAtHl
      && decodesTo [0x3B] .decSp
      && decodesTo [0x3C] .incA
      && decodesTo [0x3D] .decA
      && decodesTo [0x3E, 0x9A] (.ldAN8 0x9A)
      && decodesTo [0x3F] .ccf) = true := by decide

theorem test_decode_base_40_to_4F :
    (decodesTo [0x40] .ldBB
      && decodesTo [0x41] .ldBC
      && decodesTo [0x42] .ldBD
      && decodesTo [0x43] .ldBE
      && decodesTo [0x44] .ldBH
      && decodesTo [0x45] .ldBL
      && decodesTo [0x46] .ldBAtHl
      && decodesTo [0x47] .ldBA
      && decodesTo [0x48] .ldCB
      && decodesTo [0x49] .ldCC
      && decodesTo [0x4A] .ldCD
      && decodesTo [0x4B] .ldCE
      && decodesTo [0x4C] .ldCH
      && decodesTo [0x4D] .ldCL
      && decodesTo [0x4E] .ldCAtHl
      && decodesTo [0x4F] .ldCA) = true := by decide

theorem test_decode_base_50_to_5F :
    (decodesTo [0x50] .ldDB
      && decodesTo [0x51] .ldDC
      && decodesTo [0x52] .ldDD
      && decodesTo [0x53] .ldDE
      && decodesTo [0x54] .ldDH
      && decodesTo [0x55] .ldDL
      && decodesTo [0x56] .ldDAtHl
      && decodesTo [0x57] .ldDA
      && decodesTo [0x58] .ldEB
      && decodesTo [0x59] .ldEC
      && decodesTo [0x5A] .ldED
      && decodesTo [0x5B] .ldEE
      && decodesTo [0x5C] .ldEH
      && decodesTo [0x5D] .ldEL
      && decodesTo [0x5E] .ldEAtHl
      && decodesTo [0x5F] .ldEA) = true := by decide

theorem test_decode_base_60_to_6F :
    (decodesTo [0x60] .ldHB
      && decodesTo [0x61] .ldHC
      && decodesTo [0x62] .ldHD
      && decodesTo [0x63] .ldHE
      && decodesTo [0x64] .ldHH
      && decodesTo [0x65] .ldHL
      && decodesTo [0x66] .ldHAtHl
      && decodesTo [0x67] .ldHA
      && decodesTo [0x68] .ldLB
      && decodesTo [0x69] .ldLC
      && decodesTo [0x6A] .ldLD
      && decodesTo [0x6B] .ldLE
      && decodesTo [0x6C] .ldLH
      && decodesTo [0x6D] .ldLL
      && decodesTo [0x6E] .ldLAtHl
      && decodesTo [0x6F] .ldLA) = true := by decide

theorem test_decode_base_70_to_7F :
    (decodesTo [0x70] .ldAtHlB
      && decodesTo [0x71] .ldAtHlC
      && decodesTo [0x72] .ldAtHlD
      && decodesTo [0x73] .ldAtHlE
      && decodesTo [0x74] .ldAtHlH
      && decodesTo [0x75] .ldAtHlL
      && decodesTo [0x76] .halt
      && decodesTo [0x77] .ldAtHlA
      && decodesTo [0x78] .ldAB
      && decodesTo [0x79] .ldAC
      && decodesTo [0x7A] .ldAD
      && decodesTo [0x7B] .ldAE
      && decodesTo [0x7C] .ldAH
      && decodesTo [0x7D] .ldAL
      && decodesTo [0x7E] .ldAAtHl
      && decodesTo [0x7F] .ldAA) = true := by decide

theorem test_decode_base_80_to_8F :
    (decodesTo [0x80] .addAB
      && decodesTo [0x81] .addAC
      && decodesTo [0x82] .addAD
      && decodesTo [0x83] .addAE
      && decodesTo [0x84] .addAH
      && decodesTo [0x85] .addAL
      && decodesTo [0x86] .addAAtHl
      && decodesTo [0x87] .addAA
      && decodesTo [0x88] .adcAB
      && decodesTo [0x89] .adcAC
      && decodesTo [0x8A] .adcAD
      && decodesTo [0x8B] .adcAE
      && decodesTo [0x8C] .adcAH
      && decodesTo [0x8D] .adcAL
      && decodesTo [0x8E] .adcAAtHl
      && decodesTo [0x8F] .adcAA) = true := by decide

theorem test_decode_base_90_to_9F :
    (decodesTo [0x90] .subB
      && decodesTo [0x91] .subC
      && decodesTo [0x92] .subD
      && decodesTo [0x93] .subE
      && decodesTo [0x94] .subH
      && decodesTo [0x95] .subL
      && decodesTo [0x96] .subAtHl
      && decodesTo [0x97] .subA
      && decodesTo [0x98] .sbcAB
      && decodesTo [0x99] .sbcAC
      && decodesTo [0x9A] .sbcAD
      && decodesTo [0x9B] .sbcAE
      && decodesTo [0x9C] .sbcAH
      && decodesTo [0x9D] .sbcAL
      && decodesTo [0x9E] .sbcAAtHl
      && decodesTo [0x9F] .sbcAA) = true := by decide

theorem test_decode_base_A0_to_AF :
    (decodesTo [0xA0] .andB
      && decodesTo [0xA1] .andC
      && decodesTo [0xA2] .andD
      && decodesTo [0xA3] .andE
      && decodesTo [0xA4] .andH
      && decodesTo [0xA5] .andL
      && decodesTo [0xA6] .andAtHl
      && decodesTo [0xA7] .andA
      && decodesTo [0xA8] .xorB
      && decodesTo [0xA9] .xorC
      && decodesTo [0xAA] .xorD
      && decodesTo [0xAB] .xorE
      && decodesTo [0xAC] .xorH
      && decodesTo [0xAD] .xorL
      && decodesTo [0xAE] .xorAtHl
      && decodesTo [0xAF] .xorA) = true := by decide

theorem test_decode_base_B0_to_BF :
    (decodesTo [0xB0] .orB
      && decodesTo [0xB1] .orC
      && decodesTo [0xB2] .orD
      && decodesTo [0xB3] .orE
      && decodesTo [0xB4] .orH
      && decodesTo [0xB5] .orL
      && decodesTo [0xB6] .orAtHl
      && decodesTo [0xB7] .orA
      && decodesTo [0xB8] .cpB
      && decodesTo [0xB9] .cpC
      && decodesTo [0xBA] .cpD
      && decodesTo [0xBB] .cpE
      && decodesTo [0xBC] .cpH
      && decodesTo [0xBD] .cpL
      && decodesTo [0xBE] .cpAtHl
      && decodesTo [0xBF] .cpA) = true := by decide

theorem test_decode_base_C0_to_CF :
    (decodesTo [0xC0] .retNz
      && decodesTo [0xC1] .popBc
      && decodesTo [0xC2, 0x34, 0x12] (.jpNzA16 0x1234)
      && decodesTo [0xC3, 0x34, 0x12] (.jpA16 0x1234)
      && decodesTo [0xC4, 0x34, 0x12] (.callNzA16 0x1234)
      && decodesTo [0xC5] .pushBc
      && decodesTo [0xC6, 0x9A] (.addAN8 0x9A)
      && decodesTo [0xC7] .rst00
      && decodesTo [0xC8] .retZ
      && decodesTo [0xC9] .ret
      && decodesTo [0xCA, 0x34, 0x12] (.jpZA16 0x1234)
      && decodesTo [0xCC, 0x34, 0x12] (.callZA16 0x1234)
      && decodesTo [0xCD, 0x34, 0x12] (.callA16 0x1234)
      && decodesTo [0xCE, 0x9A] (.adcAN8 0x9A)
      && decodesTo [0xCF] .rst08) = true := by decide

theorem test_decode_base_D0_to_DF :
    (decodesTo [0xD0] .retNc
      && decodesTo [0xD1] .popDe
      && decodesTo [0xD2, 0x34, 0x12] (.jpNcA16 0x1234)
      && decodesTo [0xD3] .illegalD3
      && decodesTo [0xD4, 0x34, 0x12] (.callNcA16 0x1234)
      && decodesTo [0xD5] .pushDe
      && decodesTo [0xD6, 0x9A] (.subN8 0x9A)
      && decodesTo [0xD7] .rst10
      && decodesTo [0xD8] .retC
      && decodesTo [0xD9] .reti
      && decodesTo [0xDA, 0x34, 0x12] (.jpCA16 0x1234)
      && decodesTo [0xDB] .illegalDB
      && decodesTo [0xDC, 0x34, 0x12] (.callCA16 0x1234)
      && decodesTo [0xDD] .illegalDD
      && decodesTo [0xDE, 0x9A] (.sbcAN8 0x9A)
      && decodesTo [0xDF] .rst18) = true := by decide

theorem test_decode_base_E0_to_EF :
    (decodesTo [0xE0, 0x9A] (.ldhAtA8A 0x9A)
      && decodesTo [0xE1] .popHl
      && decodesTo [0xE2] .ldhAtCA
      && decodesTo [0xE3] .illegalE3
      && decodesTo [0xE4] .illegalE4
      && decodesTo [0xE5] .pushHl
      && decodesTo [0xE6, 0x9A] (.andN8 0x9A)
      && decodesTo [0xE7] .rst20
      && decodesTo [0xE8, 0x9A] (.addSpE8 0x9A)
      && decodesTo [0xE9] .jpHl
      && decodesTo [0xEA, 0x34, 0x12] (.ldAtA16A 0x1234)
      && decodesTo [0xEB] .illegalEB
      && decodesTo [0xEC] .illegalEC
      && decodesTo [0xED] .illegalED
      && decodesTo [0xEE, 0x9A] (.xorN8 0x9A)
      && decodesTo [0xEF] .rst28) = true := by decide

theorem test_decode_base_F0_to_FF :
    (decodesTo [0xF0, 0x9A] (.ldhAAtA8 0x9A)
      && decodesTo [0xF1] .popAf
      && decodesTo [0xF2] .ldhAAtC
      && decodesTo [0xF3] .di
      && decodesTo [0xF4] .illegalF4
      && decodesTo [0xF5] .pushAf
      && decodesTo [0xF6, 0x9A] (.orN8 0x9A)
      && decodesTo [0xF7] .rst30
      && decodesTo [0xF8, 0x9A] (.ldHlSpE8 0x9A)
      && decodesTo [0xF9] .ldSpHl
      && decodesTo [0xFA, 0x34, 0x12] (.ldAAtA16 0x1234)
      && decodesTo [0xFB] .ei
      && decodesTo [0xFC] .illegalFC
      && decodesTo [0xFD] .illegalFD
      && decodesTo [0xFE, 0x9A] (.cpN8 0x9A)
      && decodesTo [0xFF] .rst38) = true := by decide

theorem test_decode_extended_00_to_0F :
    (decodesTo [0xCB, 0x00] .rlcB
      && decodesTo [0xCB, 0x01] .rlcC
      && decodesTo [0xCB, 0x02] .rlcD
      && decodesTo [0xCB, 0x03] .rlcE
      && decodesTo [0xCB, 0x04] .rlcH
      && decodesTo [0xCB, 0x05] .rlcL
      && decodesTo [0xCB, 0x06] .rlcAtHl
      && decodesTo [0xCB, 0x07] .rlcA
      && decodesTo [0xCB, 0x08] .rrcB
      && decodesTo [0xCB, 0x09] .rrcC
      && decodesTo [0xCB, 0x0A] .rrcD
      && decodesTo [0xCB, 0x0B] .rrcE
      && decodesTo [0xCB, 0x0C] .rrcH
      && decodesTo [0xCB, 0x0D] .rrcL
      && decodesTo [0xCB, 0x0E] .rrcAtHl
      && decodesTo [0xCB, 0x0F] .rrcA) = true := by decide

theorem test_decode_extended_10_to_1F :
    (decodesTo [0xCB, 0x10] .rlB
      && decodesTo [0xCB, 0x11] .rlC
      && decodesTo [0xCB, 0x12] .rlD
      && decodesTo [0xCB, 0x13] .rlE
      && decodesTo [0xCB, 0x14] .rlH
      && decodesTo [0xCB, 0x15] .rlL
      && decodesTo [0xCB, 0x16] .rlAtHl
      && decodesTo [0xCB, 0x17] .rlA
      && decodesTo [0xCB, 0x18] .rrB
      && decodesTo [0xCB, 0x19] .rrC
      && decodesTo [0xCB, 0x1A] .rrD
      && decodesTo [0xCB, 0x1B] .rrE
      && decodesTo [0xCB, 0x1C] .rrH
      && decodesTo [0xCB, 0x1D] .rrL
      && decodesTo [0xCB, 0x1E] .rrAtHl
      && decodesTo [0xCB, 0x1F] .rrA) = true := by decide

theorem test_decode_extended_20_to_2F :
    (decodesTo [0xCB, 0x20] .slaB
      && decodesTo [0xCB, 0x21] .slaC
      && decodesTo [0xCB, 0x22] .slaD
      && decodesTo [0xCB, 0x23] .slaE
      && decodesTo [0xCB, 0x24] .slaH
      && decodesTo [0xCB, 0x25] .slaL
      && decodesTo [0xCB, 0x26] .slaAtHl
      && decodesTo [0xCB, 0x27] .slaA
      && decodesTo [0xCB, 0x28] .sraB
      && decodesTo [0xCB, 0x29] .sraC
      && decodesTo [0xCB, 0x2A] .sraD
      && decodesTo [0xCB, 0x2B] .sraE
      && decodesTo [0xCB, 0x2C] .sraH
      && decodesTo [0xCB, 0x2D] .sraL
      && decodesTo [0xCB, 0x2E] .sraAtHl
      && decodesTo [0xCB, 0x2F] .sraA) = true := by decide

theorem test_decode_extended_30_to_3F :
    (decodesTo [0xCB, 0x30] .swapB
      && decodesTo [0xCB, 0x31] .swapC
      && decodesTo [0xCB, 0x32] .swapD
      && decodesTo [0xCB, 0x33] .swapE
      && decodesTo [0xCB, 0x34] .swapH
      && decodesTo [0xCB, 0x35] .swapL
      && decodesTo [0xCB, 0x36] .swapAtHl
      && decodesTo [0xCB, 0x37] .swapA
      && decodesTo [0xCB, 0x38] .srlB
      && decodesTo [0xCB, 0x39] .srlC
      && decodesTo [0xCB, 0x3A] .srlD
      && decodesTo [0xCB, 0x3B] .srlE
      && decodesTo [0xCB, 0x3C] .srlH
      && decodesTo [0xCB, 0x3D] .srlL
      && decodesTo [0xCB, 0x3E] .srlAtHl
      && decodesTo [0xCB, 0x3F] .srlA) = true := by decide

theorem test_decode_extended_40_to_4F :
    (decodesTo [0xCB, 0x40] .bit0B
      && decodesTo [0xCB, 0x41] .bit0C
      && decodesTo [0xCB, 0x42] .bit0D
      && decodesTo [0xCB, 0x43] .bit0E
      && decodesTo [0xCB, 0x44] .bit0H
      && decodesTo [0xCB, 0x45] .bit0L
      && decodesTo [0xCB, 0x46] .bit0AtHl
      && decodesTo [0xCB, 0x47] .bit0A
      && decodesTo [0xCB, 0x48] .bit1B
      && decodesTo [0xCB, 0x49] .bit1C
      && decodesTo [0xCB, 0x4A] .bit1D
      && decodesTo [0xCB, 0x4B] .bit1E
      && decodesTo [0xCB, 0x4C] .bit1H
      && decodesTo [0xCB, 0x4D] .bit1L
      && decodesTo [0xCB, 0x4E] .bit1AtHl
      && decodesTo [0xCB, 0x4F] .bit1A) = true := by decide

theorem test_decode_extended_50_to_5F :
    (decodesTo [0xCB, 0x50] .bit2B
      && decodesTo [0xCB, 0x51] .bit2C
      && decodesTo [0xCB, 0x52] .bit2D
      && decodesTo [0xCB, 0x53] .bit2E
      && decodesTo [0xCB, 0x54] .bit2H
      && decodesTo [0xCB, 0x55] .bit2L
      && decodesTo [0xCB, 0x56] .bit2AtHl
      && decodesTo [0xCB, 0x57] .bit2A
      && decodesTo [0xCB, 0x58] .bit3B
      && decodesTo [0xCB, 0x59] .bit3C
      && decodesTo [0xCB, 0x5A] .bit3D
      && decodesTo [0xCB, 0x5B] .bit3E
      && decodesTo [0xCB, 0x5C] .bit3H
      && decodesTo [0xCB, 0x5D] .bit3L
      && decodesTo [0xCB, 0x5E] .bit3AtHl
      && decodesTo [0xCB, 0x5F] .bit3A) = true := by decide

theorem test_decode_extended_60_to_6F :
    (decodesTo [0xCB, 0x60] .bit4B
      && decodesTo [0xCB, 0x61] .bit4C
      && decodesTo [0xCB, 0x62] .bit4D
      && decodesTo [0xCB, 0x63] .bit4E
      && decodesTo [0xCB, 0x64] .bit4H
      && decodesTo [0xCB, 0x65] .bit4L
      && decodesTo [0xCB, 0x66] .bit4AtHl
      && decodesTo [0xCB, 0x67] .bit4A
      && decodesTo [0xCB, 0x68] .bit5B
      && decodesTo [0xCB, 0x69] .bit5C
      && decodesTo [0xCB, 0x6A] .bit5D
      && decodesTo [0xCB, 0x6B] .bit5E
      && decodesTo [0xCB, 0x6C] .bit5H
      && decodesTo [0xCB, 0x6D] .bit5L
      && decodesTo [0xCB, 0x6E] .bit5AtHl
      && decodesTo [0xCB, 0x6F] .bit5A) = true := by decide

theorem test_decode_extended_70_to_7F :
    (decodesTo [0xCB, 0x70] .bit6B
      && decodesTo [0xCB, 0x71] .bit6C
      && decodesTo [0xCB, 0x72] .bit6D
      && decodesTo [0xCB, 0x73] .bit6E
      && decodesTo [0xCB, 0x74] .bit6H
      && decodesTo [0xCB, 0x75] .bit6L
      && decodesTo [0xCB, 0x76] .bit6AtHl
      && decodesTo [0xCB, 0x77] .bit6A
      && decodesTo [0xCB, 0x78] .bit7B
      && decodesTo [0xCB, 0x79] .bit7C
      && decodesTo [0xCB, 0x7A] .bit7D
      && decodesTo [0xCB, 0x7B] .bit7E
      && decodesTo [0xCB, 0x7C] .bit7H
      && decodesTo [0xCB, 0x7D] .bit7L
      && decodesTo [0xCB, 0x7E] .bit7AtHl
      && decodesTo [0xCB, 0x7F] .bit7A) = true := by decide

theorem test_decode_extended_80_to_8F :
    (decodesTo [0xCB, 0x80] .res0B
      && decodesTo [0xCB, 0x81] .res0C
      && decodesTo [0xCB, 0x82] .res0D
      && decodesTo [0xCB, 0x83] .res0E
      && decodesTo [0xCB, 0x84] .res0H
      && decodesTo [0xCB, 0x85] .res0L
      && decodesTo [0xCB, 0x86] .res0AtHl
      && decodesTo [0xCB, 0x87] .res0A
      && decodesTo [0xCB, 0x88] .res1B
      && decodesTo [0xCB, 0x89] .res1C
      && decodesTo [0xCB, 0x8A] .res1D
      && decodesTo [0xCB, 0x8B] .res1E
      && decodesTo [0xCB, 0x8C] .res1H
      && decodesTo [0xCB, 0x8D] .res1L
      && decodesTo [0xCB, 0x8E] .res1AtHl
      && decodesTo [0xCB, 0x8F] .res1A) = true := by decide

theorem test_decode_extended_90_to_9F :
    (decodesTo [0xCB, 0x90] .res2B
      && decodesTo [0xCB, 0x91] .res2C
      && decodesTo [0xCB, 0x92] .res2D
      && decodesTo [0xCB, 0x93] .res2E
      && decodesTo [0xCB, 0x94] .res2H
      && decodesTo [0xCB, 0x95] .res2L
      && decodesTo [0xCB, 0x96] .res2AtHl
      && decodesTo [0xCB, 0x97] .res2A
      && decodesTo [0xCB, 0x98] .res3B
      && decodesTo [0xCB, 0x99] .res3C
      && decodesTo [0xCB, 0x9A] .res3D
      && decodesTo [0xCB, 0x9B] .res3E
      && decodesTo [0xCB, 0x9C] .res3H
      && decodesTo [0xCB, 0x9D] .res3L
      && decodesTo [0xCB, 0x9E] .res3AtHl
      && decodesTo [0xCB, 0x9F] .res3A) = true := by decide

theorem test_decode_extended_A0_to_AF :
    (decodesTo [0xCB, 0xA0] .res4B
      && decodesTo [0xCB, 0xA1] .res4C
      && decodesTo [0xCB, 0xA2] .res4D
      && decodesTo [0xCB, 0xA3] .res4E
      && decodesTo [0xCB, 0xA4] .res4H
      && decodesTo [0xCB, 0xA5] .res4L
      && decodesTo [0xCB, 0xA6] .res4AtHl
      && decodesTo [0xCB, 0xA7] .res4A
      && decodesTo [0xCB, 0xA8] .res5B
      && decodesTo [0xCB, 0xA9] .res5C
      && decodesTo [0xCB, 0xAA] .res5D
      && decodesTo [0xCB, 0xAB] .res5E
      && decodesTo [0xCB, 0xAC] .res5H
      && decodesTo [0xCB, 0xAD] .res5L
      && decodesTo [0xCB, 0xAE] .res5AtHl
      && decodesTo [0xCB, 0xAF] .res5A) = true := by decide

theorem test_decode_extended_B0_to_BF :
    (decodesTo [0xCB, 0xB0] .res6B
      && decodesTo [0xCB, 0xB1] .res6C
      && decodesTo [0xCB, 0xB2] .res6D
      && decodesTo [0xCB, 0xB3] .res6E
      && decodesTo [0xCB, 0xB4] .res6H
      && decodesTo [0xCB, 0xB5] .res6L
      && decodesTo [0xCB, 0xB6] .res6AtHl
      && decodesTo [0xCB, 0xB7] .res6A
      && decodesTo [0xCB, 0xB8] .res7B
      && decodesTo [0xCB, 0xB9] .res7C
      && decodesTo [0xCB, 0xBA] .res7D
      && decodesTo [0xCB, 0xBB] .res7E
      && decodesTo [0xCB, 0xBC] .res7H
      && decodesTo [0xCB, 0xBD] .res7L
      && decodesTo [0xCB, 0xBE] .res7AtHl
      && decodesTo [0xCB, 0xBF] .res7A) = true := by decide

theorem test_decode_extended_C0_to_CF :
    (decodesTo [0xCB, 0xC0] .set0B
      && decodesTo [0xCB, 0xC1] .set0C
      && decodesTo [0xCB, 0xC2] .set0D
      && decodesTo [0xCB, 0xC3] .set0E
      && decodesTo [0xCB, 0xC4] .set0H
      && decodesTo [0xCB, 0xC5] .set0L
      && decodesTo [0xCB, 0xC6] .set0AtHl
      && decodesTo [0xCB, 0xC7] .set0A
      && decodesTo [0xCB, 0xC8] .set1B
      && decodesTo [0xCB, 0xC9] .set1C
      && decodesTo [0xCB, 0xCA] .set1D
      && decodesTo [0xCB, 0xCB] .set1E
      && decodesTo [0xCB, 0xCC] .set1H
      && decodesTo [0xCB, 0xCD] .set1L
      && decodesTo [0xCB, 0xCE] .set1AtHl
      && decodesTo [0xCB, 0xCF] .set1A) = true := by decide

theorem test_decode_extended_D0_to_DF :
    (decodesTo [0xCB, 0xD0] .set2B
      && decodesTo [0xCB, 0xD1] .set2C
      && decodesTo [0xCB, 0xD2] .set2D
      && decodesTo [0xCB, 0xD3] .set2E
      && decodesTo [0xCB, 0xD4] .set2H
      && decodesTo [0xCB, 0xD5] .set2L
      && decodesTo [0xCB, 0xD6] .set2AtHl
      && decodesTo [0xCB, 0xD7] .set2A
      && decodesTo [0xCB, 0xD8] .set3B
      && decodesTo [0xCB, 0xD9] .set3C
      && decodesTo [0xCB, 0xDA] .set3D
      && decodesTo [0xCB, 0xDB] .set3E
      && decodesTo [0xCB, 0xDC] .set3H
      && decodesTo [0xCB, 0xDD] .set3L
      && decodesTo [0xCB, 0xDE] .set3AtHl
      && decodesTo [0xCB, 0xDF] .set3A) = true := by decide

theorem test_decode_extended_E0_to_EF :
    (decodesTo [0xCB, 0xE0] .set4B
      && decodesTo [0xCB, 0xE1] .set4C
      && decodesTo [0xCB, 0xE2] .set4D
      && decodesTo [0xCB, 0xE3] .set4E
      && decodesTo [0xCB, 0xE4] .set4H
      && decodesTo [0xCB, 0xE5] .set4L
      && decodesTo [0xCB, 0xE6] .set4AtHl
      && decodesTo [0xCB, 0xE7] .set4A
      && decodesTo [0xCB, 0xE8] .set5B
      && decodesTo [0xCB, 0xE9] .set5C
      && decodesTo [0xCB, 0xEA] .set5D
      && decodesTo [0xCB, 0xEB] .set5E
      && decodesTo [0xCB, 0xEC] .set5H
      && decodesTo [0xCB, 0xED] .set5L
      && decodesTo [0xCB, 0xEE] .set5AtHl
      && decodesTo [0xCB, 0xEF] .set5A) = true := by decide

theorem test_decode_extended_F0_to_FF :
    (decodesTo [0xCB, 0xF0] .set6B
      && decodesTo [0xCB, 0xF1] .set6C
      && decodesTo [0xCB, 0xF2] .set6D
      && decodesTo [0xCB, 0xF3] .set6E
      && decodesTo [0xCB, 0xF4] .set6H
      && decodesTo [0xCB, 0xF5] .set6L
      && decodesTo [0xCB, 0xF6] .set6AtHl
      && decodesTo [0xCB, 0xF7] .set6A
      && decodesTo [0xCB, 0xF8] .set7B
      && decodesTo [0xCB, 0xF9] .set7C
      && decodesTo [0xCB, 0xFA] .set7D
      && decodesTo [0xCB, 0xFB] .set7E
      && decodesTo [0xCB, 0xFC] .set7H
      && decodesTo [0xCB, 0xFD] .set7L
      && decodesTo [0xCB, 0xFE] .set7AtHl
      && decodesTo [0xCB, 0xFF] .set7A) = true := by decide

/-! ## Well-formedness, and bytes that end too early -/

/-- The base-table entry 0xCB is the only ill-formed term (R92). -/
theorem test_wellFormed_refuses_prefixCb : Instr.wellFormed .prefixCb = false := by decide

theorem test_wellFormed_accepts_others : (Instr.wellFormed .nop && Instr.wellFormed (.ldSpN16 0xFFFE)) = true := by decide

theorem test_decode_refuses_short_bytes :
    (decide (decode [] = .rejected .noOpcode) && decide (decode [0xCB] = .rejected .noExtendedOpcode) &&
      decide (decode [0x3E] = .rejected .noOperand) && decide (decode [0xC3, 0x34] = .rejected .noOperand)) = true := by
  decide

/-- Rows of opcode_table.json, numbered as it numbers them: an extended row has 0xCB in its upper byte (R110). -/
theorem test_decodeTableWord :
    (decide (decodeTableWord 8 0x41 = some .ldBC) && decide (decodeTableWord 8 0xC3 = some (.jpA16 0x0000)) &&
      decide (decodeTableWord 16 0xCB37 = some .swapA) && decide (decodeTableWord 16 0xCBCB = some .set1E)) = true := by
  decide

/-! ## One step each, from the examples of the instruction rules -/

/-- A running core at 0xC000 with its stack at 0xD000. -/
def base : State := { State.reset with pc := 0xC000, sp := 0xD000 }

/-- Put bytes into memory. -/
def withMem : List (Word × Byte) → State → State
  | [], s => s
  | (x, v) :: rest, s => withMem rest { s with mem := s.mem.write x.toNat v }

/-- One step of a state with an instruction's bytes at `PC`. -/
def runBytes (bytes : List Byte) (mem : List (Word × Byte)) (s : State) : Result :=
  step (State.placeBytes (withMem mem s) s.pc bytes)

/-- The step completes in a state with this property. -/
def nextWith (p : State → Bool) : Result → Bool
  | .next t => p t
  | .fault _ => false
  | .refused _ => false

/-- The step ends with this fault. -/
def faultsWith (x : Fault) : Result → Bool
  | .next _ => false
  | .fault y => decide (y = x)
  | .refused _ => false

/-- R130. -/
theorem test_ldReg_copies :
    nextWith (fun t => t.b == 0x34 && t.c == 0x34 && t.pc == 0xC001)
      (runBytes [0x41] [] { base with b := 0x12, c := 0x34 }) = true := by decide

/-- R131. -/
theorem test_ldImm_A :
    nextWith (fun t => t.a == 0x7F && t.pc == 0xC002)
      (runBytes [0x3E, 0x7F] [] base) = true := by decide

/-- R132. -/
theorem test_ldRegAtHl_B :
    nextWith (fun t => t.b == 0x42)
      (runBytes [0x46] [(0xC800, 0x42)] { base with h := 0xC8, l := 0x00 }) = true := by decide

/-- R132. -/
theorem test_ldRegAtHl_reads_old_HL :
    nextWith (fun t => t.h == 0x42 && t.l == 0x00)
      (runBytes [0x66] [(0xC800, 0x42)] { base with h := 0xC8, l := 0x00 }) = true := by decide

/-- R133. -/
theorem test_ldAtHlReg_A :
    nextWith (fun t => t.read8 0xC010 == 0x99)
      (runBytes [0x77] [] { base with h := 0xC0, l := 0x10, a := 0x99 }) = true := by decide

/-- R133. -/
theorem test_ldAtHlReg_in_rom_faults :
    faultsWith .fatalWriteProtectionError (runBytes [0x77] [] { base with h := 0x12, l := 0x34, a := 0x99 }) = true := by decide

/-- R134. -/
theorem test_ldAtHlImm :
    nextWith (fun t => t.read8 0x9000 == 0xAB && t.pc == 0xC002)
      (runBytes [0x36, 0xAB] [] { base with h := 0x90, l := 0x00 }) = true := by decide

/-- R135. -/
theorem test_ldAAtBc :
    nextWith (fun t => t.a == 0x5A)
      (runBytes [0x0A] [(0x8001, 0x5A)] { base with b := 0x80, c := 0x01 }) = true := by decide

/-- R136. -/
theorem test_ldAAtDe_reads_rom :
    nextWith (fun t => t.a == 0xCE)
      (runBytes [0x1A] [(0x0104, 0xCE)] { base with d := 0x01, e := 0x04 }) = true := by decide

/-- R137. -/
theorem test_ldAtBcA :
    nextWith (fun t => t.read8 0xC100 == 0x77)
      (runBytes [0x02] [] { base with b := 0xC1, c := 0x00, a := 0x77 }) = true := by decide

/-- R138. -/
theorem test_ldAtDeA_first_writable :
    nextWith (fun t => t.read8 0x8000 == 0x01)
      (runBytes [0x12] [] { base with d := 0x80, e := 0x00, a := 0x01 }) = true := by decide

/-- R139. -/
theorem test_ldAAtA16 :
    nextWith (fun t => t.a == 0x9C && t.pc == 0xC003)
      (runBytes [0xFA, 0x34, 0x12] [(0x1234, 0x9C)] base) = true := by decide

/-- R140. -/
theorem test_ldAtA16A :
    nextWith (fun t => t.read8 0xC100 == 0x3C && t.pc == 0xC003)
      (runBytes [0xEA, 0x00, 0xC1] [] { base with a := 0x3C }) = true := by decide

/-- R140. -/
theorem test_ldAtA16A_top :
    nextWith (fun t => t.read8 0xFFFF == 0x3C)
      (runBytes [0xEA, 0xFF, 0xFF] [] { base with a := 0x3C }) = true := by decide

/-- R141. -/
theorem test_ldhAAtA8 :
    nextWith (fun t => t.a == 0x90)
      (runBytes [0xF0, 0x44] [(0xFF44, 0x90)] base) = true := by decide

/-- R142. -/
theorem test_ldhAtA8A :
    nextWith (fun t => t.read8 0xFF80 == 0x12)
      (runBytes [0xE0, 0x80] [] { base with a := 0x12 }) = true := by decide

/-- R143. -/
theorem test_ldhAAtC :
    nextWith (fun t => t.a == 0x80)
      (runBytes [0xF2] [(0xFF10, 0x80)] { base with c := 0x10 }) = true := by decide

/-- R144. -/
theorem test_ldhAtCA_top :
    nextWith (fun t => t.read8 0xFFFF == 0x01)
      (runBytes [0xE2] [] { base with c := 0xFF, a := 0x01 }) = true := by decide

/-- R145. -/
theorem test_ldiAtHlA :
    nextWith (fun t => t.read8 0xC100 == 0x42 && t.h == 0xC1 && t.l == 0x01)
      (runBytes [0x22] [] { base with h := 0xC1, l := 0x00, a := 0x42 }) = true := by decide

/-- R145. -/
theorem test_ldiAtHlA_wraps :
    nextWith (fun t => t.read8 0xFFFF == 0x42 && t.h == 0x00 && t.l == 0x00)
      (runBytes [0x22] [] { base with h := 0xFF, l := 0xFF, a := 0x42 }) = true := by decide

/-- R146. -/
theorem test_ldiAAtHl :
    nextWith (fun t => t.a == 0x42 && t.h == 0xC8 && t.l == 0x01)
      (runBytes [0x2A] [(0xC800, 0x42)] { base with h := 0xC8, l := 0x00 }) = true := by decide

/-- R147. -/
theorem test_lddAtHlA_leaves_boundary :
    nextWith (fun t => t.read8 0x8000 == 0x05 && t.h == 0x7F && t.l == 0xFF)
      (runBytes [0x32] [] { base with h := 0x80, l := 0x00, a := 0x05 }) = true := by decide

/-- R148. -/
theorem test_lddAAtHl :
    nextWith (fun t => t.a == 0x07 && t.h == 0xC8 && t.l == 0x00)
      (runBytes [0x3A] [(0xC801, 0x07)] { base with h := 0xC8, l := 0x01 }) = true := by decide

/-- R172. -/
theorem test_ldPairImm_HL :
    nextWith (fun t => t.h == 0xC0 && t.l == 0x00 && t.pc == 0xC003)
      (runBytes [0x21, 0x00, 0xC0] [] base) = true := by decide

/-- R172. -/
theorem test_ldPairImm_SP :
    nextWith (fun t => t.sp == 0xFFFE)
      (runBytes [0x31, 0xFE, 0xFF] [] base) = true := by decide

/-- R173. -/
theorem test_ldAtA16Sp :
    nextWith (fun t => t.read8 0xC100 == 0xF8 && t.read8 0xC101 == 0xFF && t.pc == 0xC003)
      (runBytes [0x08, 0x00, 0xC1] [] { base with sp := 0xFFF8 }) = true := by decide

/-- R173. -/
theorem test_ldAtA16Sp_top_faults :
    faultsWith .fatalBoundsError (runBytes [0x08, 0xFF, 0xFF] [] base) = true := by decide

/-- R174. -/
theorem test_ldSpHl :
    nextWith (fun t => t.sp == 0xD000)
      (runBytes [0xF9] [] { base with h := 0xD0, l := 0x00 }) = true := by decide

/-- R175. -/
theorem test_ldHlSpE8 :
    nextWith (fun t => t.h == 0x00 && t.l == 0x00 && t.f == 0x30)
      (runBytes [0xF8, 0x08] [] { base with sp := 0xFFF8 }) = true := by decide

/-- R175. -/
theorem test_ldHlSpE8_negative :
    nextWith (fun t => t.h == 0xFF && t.l == 0xF0 && t.f == 0x30)
      (runBytes [0xF8, 0xF8] [] { base with sp := 0xFFF8 }) = true := by decide

/-- R176. -/
theorem test_push_AF :
    nextWith (fun t => t.sp == 0xCFFE && t.read8 0xCFFE == 0xA0 && t.read8 0xCFFF == 0x12)
      (runBytes [0xF5] [] { base with sp := 0xD000, a := 0x12, f := 0xA0 }) = true := by decide

/-- R176. -/
theorem test_push_below_boundary_faults :
    faultsWith .fatalWriteProtectionError (runBytes [0xC5] [] { base with sp := 0x8001 }) = true := by decide

/-- R170. -/
theorem test_push_at_top_faults :
    faultsWith .fatalBoundsError (runBytes [0xC5] [] { base with sp := 0x0001 }) = true := by decide

/-- R170. -/
theorem test_push_from_reset_SP :
    nextWith (fun t => t.sp == 0xFFFE && t.read8 0xFFFE == 0xCD && t.read8 0xFFFF == 0xAB)
      (runBytes [0xC5] [] { base with sp := 0x0000, b := 0xAB, c := 0xCD }) = true := by decide

/-- R177. -/
theorem test_pop_BC :
    nextWith (fun t => t.b == 0xBE && t.c == 0xEF && t.sp == 0x0000)
      (runBytes [0xC1] [(0xFFFE, 0xEF), (0xFFFF, 0xBE)] { base with sp := 0xFFFE }) = true := by decide

/-- R177. -/
theorem test_pop_top_faults :
    faultsWith .fatalBoundsError (runBytes [0xC1] [] { base with sp := 0xFFFF }) = true := by decide

/-- R178. -/
theorem test_pop_AF_masks :
    nextWith (fun t => t.a == 0x34 && t.f == 0xF0 && t.sp == 0xD002)
      (runBytes [0xF1] [(0xD000, 0xFF), (0xD001, 0x34)] { base with sp := 0xD000 }) = true := by decide

/-- R198. -/
theorem test_add_half_carry :
    nextWith (fun t => t.a == 0x10 && t.f == 0x20)
      (runBytes [0x80] [] { base with a := 0x0F, b := 0x01 }) = true := by decide

/-- R200. -/
theorem test_add_imm_carry :
    nextWith (fun t => t.a == 0x00 && t.f == 0x90 && t.pc == 0xC002)
      (runBytes [0xC6, 0x80] [] { base with a := 0x80 }) = true := by decide

/-- R201. -/
theorem test_adc_reg :
    nextWith (fun t => t.a == 0x00 && t.f == 0xB0)
      (runBytes [0x88] [] { base with a := 0xE1, b := 0x1E, f := 0x10 }) = true := by decide

/-- R203. -/
theorem test_adc_folds_carry_first :
    nextWith (fun t => t.a == 0x00 && t.f == 0x80)
      (runBytes [0xCE, 0xFF] [] { base with a := 0x00, f := 0x10 }) = true := by decide

/-- R204. -/
theorem test_sub_reg :
    nextWith (fun t => t.a == 0x2F && t.f == 0x60)
      (runBytes [0x90] [] { base with a := 0x3E, b := 0x0F }) = true := by decide

/-- R206. -/
theorem test_sub_imm_borrow :
    nextWith (fun t => t.a == 0xFE && t.f == 0x50)
      (runBytes [0xD6, 0x40] [] { base with a := 0x3E }) = true := by decide

/-- R207. -/
theorem test_sbc_reg :
    nextWith (fun t => t.a == 0x10 && t.f == 0x40)
      (runBytes [0x98] [] { base with a := 0x3B, b := 0x2A, f := 0x10 }) = true := by decide

/-- R209. -/
theorem test_sbc_exact_carry :
    nextWith (fun t => t.a == 0x00 && t.f == 0xD0)
      (runBytes [0xDE, 0xFF] [] { base with a := 0x00, f := 0x10 }) = true := by decide

/-- R211. -/
theorem test_and_atHl :
    nextWith (fun t => t.a == 0x1A && t.f == 0x20)
      (runBytes [0xA6] [(0xC800, 0x3F)] { base with a := 0x5A, h := 0xC8, l := 0x00 }) = true := by decide

/-- R213. -/
theorem test_xor_A :
    nextWith (fun t => t.a == 0x00 && t.f == 0x80)
      (runBytes [0xAF] [] { base with a := 0x5A }) = true := by decide

/-- R218. -/
theorem test_or_imm :
    nextWith (fun t => t.a == 0x5B && t.f == 0x00)
      (runBytes [0xF6, 0x03] [] { base with a := 0x5A }) = true := by decide

/-- R219. -/
theorem test_cp_reg :
    nextWith (fun t => t.a == 0x3C && t.f == 0x60)
      (runBytes [0xB8] [] { base with a := 0x3C, b := 0x2F }) = true := by decide

/-- R224. -/
theorem test_inc_A_keeps_carry :
    nextWith (fun t => t.a == 0x00 && t.f == 0xB0)
      (runBytes [0x3C] [] { base with a := 0xFF, f := 0x10 }) = true := by decide

/-- R225. -/
theorem test_inc_atHl :
    nextWith (fun t => t.read8 0xC800 == 0x10 && t.f == 0x20)
      (runBytes [0x34] [(0xC800, 0x0F)] { base with h := 0xC8, l := 0x00 }) = true := by decide

/-- R225. -/
theorem test_inc_atHl_in_rom_faults :
    faultsWith .fatalWriteProtectionError (runBytes [0x34] [] { base with h := 0x7F, l := 0xFF }) = true := by decide

/-- R226. -/
theorem test_dec_A_keeps_carry :
    nextWith (fun t => t.a == 0xFF && t.f == 0x70)
      (runBytes [0x3D] [] { base with a := 0x00, f := 0x10 }) = true := by decide

/-- R227. -/
theorem test_dec_atHl :
    nextWith (fun t => t.read8 0xC800 == 0x00 && t.f == 0xD0)
      (runBytes [0x35] [(0xC800, 0x01)] { base with h := 0xC8, l := 0x00, f := 0x10 }) = true := by decide

/-- R228. -/
theorem test_daa_after_add :
    nextWith (fun t => t.a == 0x83 && t.f == 0x00)
      (runBytes [0x27] [] { base with a := 0x7D }) = true := by decide

/-- R228. -/
theorem test_daa_after_sub :
    nextWith (fun t => t.a == 0x45 && t.f == 0x40)
      (runBytes [0x27] [] { base with a := 0x4B, f := 0x60 }) = true := by decide

/-- R229. -/
theorem test_cpl :
    nextWith (fun t => t.a == 0xCA && t.f == 0xE0)
      (runBytes [0x2F] [] { base with a := 0x35, f := 0x80 }) = true := by decide

/-- R230. -/
theorem test_scf :
    nextWith (fun t => t.f == 0x90)
      (runBytes [0x37] [] { base with f := 0xE0 }) = true := by decide

/-- R231. -/
theorem test_ccf :
    nextWith (fun t => t.f == 0x80)
      (runBytes [0x3F] [] { base with f := 0xF0 }) = true := by decide

/-- R240. -/
theorem test_addHl_carries :
    nextWith (fun t => t.h == 0x00 && t.l == 0x00 && t.f == 0xB0)
      (runBytes [0x19] [] { base with h := 0xFF, l := 0xFF, d := 0x00, e := 0x01, f := 0x80 }) = true := by decide

/-- R241. -/
theorem test_incPair_wraps :
    nextWith (fun t => t.b == 0x00 && t.c == 0x00 && t.f == 0xF0)
      (runBytes [0x03] [] { base with b := 0xFF, c := 0xFF, f := 0xF0 }) = true := by decide

/-- R242. -/
theorem test_decPair_wraps :
    nextWith (fun t => t.sp == 0xFFFF)
      (runBytes [0x3B] [] { base with sp := 0x0000 }) = true := by decide

/-- R243. -/
theorem test_addSp_negative :
    nextWith (fun t => t.sp == 0x0000 && t.f == 0x30)
      (runBytes [0xE8, 0xFF] [] { base with sp := 0x0001 }) = true := by decide

/-- R250. -/
theorem test_rlca_clears_fZ :
    nextWith (fun t => t.a == 0x00 && t.f == 0x00)
      (runBytes [0x07] [] { base with a := 0x00, f := 0x90 }) = true := by decide

/-- R251. -/
theorem test_rrca :
    nextWith (fun t => t.a == 0x80 && t.f == 0x10)
      (runBytes [0x0F] [] { base with a := 0x01 }) = true := by decide

/-- R252. -/
theorem test_rla :
    nextWith (fun t => t.a == 0x00 && t.f == 0x10)
      (runBytes [0x17] [] { base with a := 0x80 }) = true := by decide

/-- R253. -/
theorem test_rra_clears_fZ :
    nextWith (fun t => t.a == 0x00 && t.f == 0x10)
      (runBytes [0x1F] [] { base with a := 0x01 }) = true := by decide

/-- R262. -/
theorem test_rlc_B :
    nextWith (fun t => t.b == 0x0B && t.f == 0x10 && t.pc == 0xC002)
      (runBytes [0xCB, 0x00] [] { base with b := 0x85 }) = true := by decide

/-- R264. -/
theorem test_rrc_C :
    nextWith (fun t => t.c == 0x80 && t.f == 0x10)
      (runBytes [0xCB, 0x09] [] { base with c := 0x01 }) = true := by decide

/-- R266. -/
theorem test_rl_D :
    nextWith (fun t => t.d == 0x23 && t.f == 0x00)
      (runBytes [0xCB, 0x12] [] { base with d := 0x11, f := 0x10 }) = true := by decide

/-- R268. -/
theorem test_rr_E :
    nextWith (fun t => t.e == 0xC5 && t.f == 0x00)
      (runBytes [0xCB, 0x1B] [] { base with e := 0x8A, f := 0x10 }) = true := by decide

/-- R270. -/
theorem test_sla_H :
    nextWith (fun t => t.h == 0x00 && t.f == 0x90)
      (runBytes [0xCB, 0x24] [] { base with h := 0x80 }) = true := by decide

/-- R272. -/
theorem test_sra_L :
    nextWith (fun t => t.l == 0xC5 && t.f == 0x00)
      (runBytes [0xCB, 0x2D] [] { base with l := 0x8A }) = true := by decide

/-- R274. -/
theorem test_swap_A :
    nextWith (fun t => t.a == 0x1F && t.f == 0x00)
      (runBytes [0xCB, 0x37] [] { base with a := 0xF1, f := 0xF0 }) = true := by decide

/-- R277. -/
theorem test_srl_atHl :
    nextWith (fun t => t.read8 0xC800 == 0x7F && t.f == 0x10)
      (runBytes [0xCB, 0x3E] [(0xC800, 0xFF)] { base with h := 0xC8, l := 0x00 }) = true := by decide

/-- R277. -/
theorem test_srl_atHl_in_rom_faults :
    faultsWith .fatalWriteProtectionError (runBytes [0xCB, 0x3E] [] { base with h := 0x40, l := 0x00 }) = true := by decide

/-- R278. -/
theorem test_bit_7_H :
    nextWith (fun t => t.f == 0x30 && t.h == 0x80)
      (runBytes [0xCB, 0x7C] [] { base with h := 0x80, f := 0x10 }) = true := by decide

/-- R279. -/
theorem test_bit_atHl_zero :
    nextWith (fun t => t.f == 0xA0)
      (runBytes [0xCB, 0x46] [(0x4000, 0xFE)] { base with h := 0x40, l := 0x00 }) = true := by decide

/-- R280. -/
theorem test_res_0_A :
    nextWith (fun t => t.a == 0xFE && t.f == 0xF0)
      (runBytes [0xCB, 0x87] [] { base with a := 0xFF, f := 0xF0 }) = true := by decide

/-- R281. -/
theorem test_res_atHl :
    nextWith (fun t => t.read8 0xC800 == 0x7F)
      (runBytes [0xCB, 0xBE] [(0xC800, 0xFF)] { base with h := 0xC8, l := 0x00 }) = true := by decide

/-- R282. -/
theorem test_set_1_E :
    nextWith (fun t => t.e == 0x02)
      (runBytes [0xCB, 0xCB] [] { base with e := 0x00 }) = true := by decide

/-- R283. -/
theorem test_set_atHl :
    nextWith (fun t => t.read8 0xC800 == 0x01)
      (runBytes [0xCB, 0xC6] [] { base with h := 0xC8, l := 0x00 }) = true := by decide

/-- R300. -/
theorem test_jp_wraps_to_operand :
    nextWith (fun t => t.pc == 0x1234)
      (runBytes [0xC3, 0x34, 0x12] [] { base with pc := 0xFFFD }) = true := by decide

/-- R300. -/
theorem test_jp_operand_at_top_faults :
    faultsWith .fatalBoundsError (runBytes [0xC3, 0x34] [] { base with pc := 0xFFFE }) = true := by decide

/-- R301. -/
theorem test_jp_z_taken :
    nextWith (fun t => t.pc == 0x8000)
      (runBytes [0xCA, 0x00, 0x80] [] { base with f := 0x80 }) = true := by decide

/-- R307. -/
theorem test_jp_z_untaken_operand_faults :
    faultsWith .fatalBoundsError (runBytes [0xCA, 0x34] [] { base with pc := 0xFFFE, f := 0x00 }) = true := by decide

/-- R301. -/
theorem test_jp_c_untaken :
    nextWith (fun t => t.pc == 0xC003)
      (runBytes [0xDA, 0x34, 0x12] [] { base with f := 0x80 }) = true := by decide

/-- R302. -/
theorem test_jpHl :
    nextWith (fun t => t.pc == 0x1234)
      (runBytes [0xE9] [] { base with h := 0x12, l := 0x34 }) = true := by decide

/-- R303. -/
theorem test_jr_back :
    nextWith (fun t => t.pc == 0xBF82)
      (runBytes [0x18, 0x80] [] base) = true := by decide

/-- R303. -/
theorem test_jr_wraps_down :
    nextWith (fun t => t.pc == 0x0000)
      (runBytes [0x18, 0xFD] [] { base with pc := 0x0001 }) = true := by decide

/-- R304. -/
theorem test_jr_nz :
    nextWith (fun t => t.pc == 0xBFFD)
      (runBytes [0x20, 0xFB] [] { base with f := 0x00 }) = true := by decide

/-- R304. -/
theorem test_jr_c_untaken :
    nextWith (fun t => t.pc == 0xC002)
      (runBytes [0x38, 0x02] [] { base with f := 0x80 }) = true := by decide

/-- R305. -/
theorem test_call :
    nextWith (fun t => t.sp == 0xFFFC && t.read8 0xFFFC == 0x03 && t.read8 0xFFFD == 0xC0 && t.pc == 0x1234)
      (runBytes [0xCD, 0x34, 0x12] [] { base with sp := 0xFFFE }) = true := by decide

/-- R347. -/
theorem test_call_below_boundary_faults :
    faultsWith .fatalWriteProtectionError (runBytes [0xCD, 0x34, 0x12] [] { base with sp := 0x0002 }) = true := by decide

/-- R306. -/
theorem test_call_nz_untaken :
    nextWith (fun t => t.sp == 0xD000 && t.pc == 0xC003)
      (runBytes [0xC4, 0x00, 0xC1] [] { base with f := 0x80 }) = true := by decide

/-- R311. -/
theorem test_rst_wraps_next :
    nextWith (fun t => t.read8 0xFFFC == 0x00 && t.read8 0xFFFD == 0x00 && t.pc == 0x0038)
      (runBytes [0xFF] [] { base with pc := 0xFFFF, sp := 0xFFFE }) = true := by decide

/-- R308. -/
theorem test_ret :
    nextWith (fun t => t.pc == 0xC003 && t.sp == 0xFFFE)
      (runBytes [0xC9] [(0xFFFC, 0x03), (0xFFFD, 0xC0)] { base with sp := 0xFFFC }) = true := by decide

/-- R309. -/
theorem test_ret_z_untaken_reads_no_stack :
    nextWith (fun t => t.pc == 0xC001 && t.sp == 0xFFFF)
      (runBytes [0xC8] [] { base with sp := 0xFFFF, f := 0x00 }) = true := by decide

/-- R309. -/
theorem test_ret_z_taken_faults :
    faultsWith .fatalBoundsError (runBytes [0xC8] [] { base with sp := 0xFFFF, f := 0x80 }) = true := by decide

/-- R310. -/
theorem test_reti :
    nextWith (fun t => t.pc == 0xC003 && t.sp == 0xFFFE && t.ime == true)
      (runBytes [0xD9] [(0xFFFC, 0x03), (0xFFFD, 0xC0)] { base with sp := 0xFFFC }) = true := by decide

/-- R320. -/
theorem test_nop_wraps :
    nextWith (fun t => t.pc == 0x0000)
      (runBytes [0x00] [] { base with pc := 0xFFFF }) = true := by decide

/-- R321. -/
theorem test_halt :
    nextWith (fun t => decide (t.run = .lowPower) && t.pc == 0xC001)
      (runBytes [0x76] [] base) = true := by decide

/-- R322. -/
theorem test_stop_any_padding :
    nextWith (fun t => decide (t.run = .lowPower) && t.pc == 0xC002)
      (runBytes [0x10, 0x55] [] base) = true := by decide

/-- R323. -/
theorem test_di :
    nextWith (fun t => t.ime == false && t.pc == 0xC001)
      (runBytes [0xF3] [] { base with ime := true }) = true := by decide

/-- R324. -/
theorem test_ei :
    nextWith (fun t => t.ime == true && t.pc == 0xC001)
      (runBytes [0xFB] [] base) = true := by decide

/-- R326. -/
theorem test_reserved_is_nop :
    nextWith (fun t => t.f == 0xF0 && t.pc == 0xC001)
      (runBytes [0xD3] [] { base with f := 0xF0 }) = true := by decide

/-- R100. -/
theorem test_operand_wraps :
    nextWith (fun t => t.a == 0x77 && t.pc == 0x0001)
      (runBytes [0x3E] [(0x0000, 0x77)] { base with pc := 0xFFFF }) = true := by decide

/-! ## The table entry 0xCB, the host interface, cycles -/

/-- Executing the base-table entry 0xCB does what `EXT` of the byte after `PC` does (R92, log 4): here `SWAP A`. -/
theorem test_prefixCb :
    nextWith (fun t => t.a == 0x1F && t.pc == 0xC002)
      (exec .prefixCb (withMem [(0xC001, 0x37)] { base with a := 0xF1 })) = true := by decide

theorem test_withFetchWord : nextWith (fun t => t.b == 0x34 && t.pc == 0xC001)
    (step ({ base with c := 0x34 }.withFetchWord 8 0x41)) = true := by decide

theorem test_withFetchWord_extended : nextWith (fun t => t.a == 0x1F && t.pc == 0x0002)
    (step ({ State.reset with a := 0xF1 }.withFetchWord 16 0xCB37)) = true := by decide

/-- R325: the step after HALT is idle; after `Wake` the next one fetches at the same `PC`. -/
theorem test_idle_then_wake :
    (nextWith (fun t => t.pc == 0xC001) (step { base with run := .lowPower, pc := 0xC001 }) &&
      nextWith (fun t => t.pc == 0xC002) (step (applyEvent { base with run := .lowPower, pc := 0xC001 } .wake))) = true := by
  decide

/-- R343: a fault sets the faulted mark, and no further step is defined. -/
theorem test_fault_is_terminal :
    (tick [] (withMem [(0xC000, 0x77)] base)).faulted = true ∧
      (nextWith (fun _ => true) (step (tick [] (withMem [(0xC000, 0x77)] base)))) = false := by decide

/-- R58: the switchable window starts at 0x4000; the byte after the copied ones keeps its value. -/
theorem test_mountSwitchable :
    (match mountSwitchableBank [0x11, 0x22] (withMem [(0x4002, 0x99)] base) with
      | .ok t => t.read8 0x4000 == 0x11 && t.read8 0x4001 == 0x22 && t.read8 0x4002 == 0x99
      | .error _ => false) = true := by decide

/-- R66 and I11: a peripheral writes above the boundary only. -/
theorem test_env_write :
    ((applyEvent base (.write 0x8000 0x12)).read8 0x8000 == 0x12 &&
      (applyEvent base (.write 0x7FFF 0x12)).read8 0x7FFF == 0x00) = true := by decide

/-- R108, R307: `JR NZ` costs 12 taken, 8 untaken; an idle step costs 0. -/
theorem test_cycles :
    (stepCycles (withMem [(0xC000, 0x20)] base) == some 12 &&
      stepCycles (withMem [(0xC000, 0x20)] { base with f := 0x80 }) == some 8 &&
      stepCycles { base with run := .lowPower } == some 0) = true := by decide

/-- R57: the helpers on a word. -/
theorem test_increment16 :
    nextWith (fun t => t.read8 0x9000 == 0x00 && t.read8 0x9001 == 0x13)
      ((withMem [(0x9000, 0xFF), (0x9001, 0x12)] base).increment16 0x9000) = true := by decide

/-- 20_memory.md R62, the source's own example. -/
theorem test_little_endian :
    nextWith (fun t => t.read8 0x9000 == 0x34 && t.read8 0x9001 == 0x12) (base.write16 0x9000 0x1234) = true := by decide

/-! ## Witnesses: every statement with hypotheses has a state and operands that meet them, at the boundary of each clause -/

/-- A three-byte instruction at 0xFFFE, where its operand word has no second address. -/
def atTop (op : Byte) : State := withMem [(0xFFFE, op)] { base with pc := 0xFFFE }

/-- The core asleep. -/
def asleep : State := { base with run := .lowPower }

theorem witness_StepRunsDecoded :
    (base.active ∧ decode (bytesAt base) = .instr .nop [0x00, 0x00] ∧ ¬(instrLength .nop = 3 ∧ base.pc = 0xFFFE)) ∧
    ((atTop 0xC3).active ∧ decode (bytesAt (atTop 0xC3)) = .instr (.jpA16 0x0000) [] ∧
      (instrLength (.jpA16 0x0000) = 3 ∧ (atTop 0xC3).pc = 0xFFFE)) :=
  ⟨⟨⟨rfl, rfl⟩, by decide, by decide⟩, ⟨rfl, rfl⟩, by decide, by decide⟩

theorem witness_IdleStep :
    asleep.run = .lowPower ∧ asleep.faulted = false ∧ decode (bytesAt asleep) = .instr .nop [0x00, 0x00] ∧
    ¬(instrLength .nop = 3 ∧ asleep.pc = 0xFFFE) := by decide

theorem witness_ExecOutcome :
    execFault (.ldAtA16Sp 0x8000) base = none ∧ execFault (.ldAtA16Sp 0xFFFE) base = none ∧
    execFault (.ldAtA16Sp 0x7FFF) base = some .fatalWriteProtectionError ∧
    execFault (.ldAtA16Sp 0xFFFF) base = some .fatalBoundsError ∧ execFault .prefixCb base = none ∧
    execFault .popBc { base with sp := 0xFFFF } = some .fatalBoundsError := by decide

theorem witness_StepOutcome :
    base.active ∧ execFault .nop base = none ∧ (atTop 0xC3).active ∧
    (withMem [(0xC000, 0x77)] base).active ∧
    execFault .ldAtHlA (withMem [(0xC000, 0x77)] base) = some .fatalWriteProtectionError ∧
    ({ base with faulted := true } : State).faulted = true :=
  ⟨⟨rfl, rfl⟩, rfl, ⟨rfl, rfl⟩, ⟨rfl, rfl⟩, by decide, rfl⟩

theorem witness_MemoryFrame :
    (∃ t, exec (.ldAtA16A 0x8000) base = .next t) ∧ (0x8001 : Word) ∉ storedAddresses (.ldAtA16A 0x8000) base ∧
    (0x7FFF : Word) ∉ storedAddresses (.ldAtA16A 0x8000) base := ⟨⟨_, rfl⟩, by decide, by decide⟩

theorem witness_RomUnchanged : ∃ t, step (withMem [(0xC000, 0x77)] { base with h := 0x80, a := 0x55 }) = .next t := ⟨_, rfl⟩

theorem witness_StepKeepsLegal :
    (withMem [(0xC000, 0xF1), (0xD000, 0xFF)] base).legal = true ∧
    nextWith (fun t => t.f == 0xF0) (step (withMem [(0xC000, 0xF1), (0xD000, 0xFF)] base)) = true := by decide

theorem witness_HostKeepsLegal :
    base.legal = true ∧ (∃ t, mountFixedBank [0x3E, 0x00] base = .ok t) ∧ (∃ t, mountSwitchableBank [0x01] base = .ok t) ∧
    (runTicks [[.write 0xC001 0x76], [.wake]] base).faulted = false :=
  ⟨by decide, ⟨_, rfl⟩, ⟨_, rfl⟩, by decide⟩

theorem witness_DefaultAdvance :
    Instr.wellFormed .nop = true ∧ ¬transfersControl .nop base ∧ (∃ t, exec .nop base = .next t) ∧
    ¬transfersControl (.jrZE8 0x05) base ∧ ∃ t, exec (.jrZE8 0x05) base = .next t := by
  refine ⟨by decide, ?_, ⟨_, rfl⟩, ?_, ⟨_, rfl⟩⟩
  · rintro (⟨_, h⟩ | h | ⟨_, h⟩ | ⟨_, h⟩ | h | h | ⟨k, h⟩ | ⟨cc, _, _, h⟩ | ⟨cc, _, _, h⟩ | ⟨cc, _, _, h⟩ | ⟨cc, _, h⟩) <;>
      first | cases h | (cases cc <;> cases h) | (fin_cases k <;> cases h)
  · rintro (⟨_, h⟩ | h | ⟨_, h⟩ | ⟨_, h⟩ | h | h | ⟨k, h⟩ | ⟨cc, _, _, h⟩ | ⟨cc, _, hc, h⟩ | ⟨cc, _, _, h⟩ | ⟨cc, _, h⟩) <;>
      first | cases h | (fin_cases k <;> cases h) | (cases cc <;> first | (cases h; done) | simp [condTrue, State.fZ, base, State.reset] at hc)

theorem witness_ImeIsNeverRead :
    (∃ t, exec .ei base = .next t) ∧ (∃ t, exec .di base = .next t) ∧ (∃ t, exec .reti base = .next t) ∧
    (∃ t, exec .nop base = .next t) ∧ base.faulted = false := ⟨⟨_, rfl⟩, ⟨_, rfl⟩, ⟨_, rfl⟩, ⟨_, rfl⟩, rfl⟩

theorem witness_RunStateAndEvents :
    (∃ t, exec .halt base = .next t) ∧ (∃ t, exec .stop base = .next t) ∧ (∃ t, exec .nop base = .next t) ∧
    base.legal = true ∧ asleep.run = .lowPower ∧ asleep.faulted = false :=
  ⟨⟨_, rfl⟩, ⟨_, rfl⟩, ⟨_, rfl⟩, by decide, rfl, rfl⟩

/-- The state whose next step faults: `LD (HL),A` with `HL` below 0x8000 (R342). -/
def faulting : State := withMem [(0xC000, 0x77)] base

theorem witness_FaultEndsTheRun :
    (∃ t, step base = .next t) ∧ base.faulted = false ∧ step faulting = .fault .fatalWriteProtectionError ∧
    faulting.faulted = false ∧ ({ base with faulted := true } : State).faulted = true ∧
    (∃ t, mountFixedBank [0x3E] { base with faulted := false } = .ok t) ∧
    (∃ t, mountSwitchableBank [0x3E] { base with faulted := false } = .ok t) ∧
    (List.replicate 0x4001 (0x00 : Byte)).length > 0x4000 := by
  refine ⟨⟨_, rfl⟩, rfl, rfl, rfl, rfl, ⟨_, rfl⟩, ⟨_, rfl⟩, ?_⟩
  rw [List.length_replicate]; decide

theorem witness_MountSizes :
    base.faulted = false ∧ (List.replicate 0x4001 (0x00 : Byte)).length > 0x4000 ∧ (List.replicate 0x4000 (0x00 : Byte)).length ≤ 0x4000 := by
  refine ⟨rfl, ?_⟩
  rw [List.length_replicate, List.length_replicate]; decide

theorem witness_MountCopies :
    base.legal = true ∧ (∃ t, mountFixedBank [0x3E, 0x00] base = .ok t) ∧ ∃ t, mountSwitchableBank [0x01] base = .ok t :=
  ⟨by decide, ⟨_, rfl⟩, ⟨_, rfl⟩⟩

theorem witness_ReadWordAndWriteByte :
    (0xFFFE : Word) ≠ 0xFFFF ∧ (0x7FFF : Word).toNat < 0x8000 ∧ 0x8000 ≤ (0x8000 : Word).toNat ∧ base.legal = true := by
  decide

theorem witness_WriteWordAndHelpers :
    (0x7FFF : Word).toNat < 0x8000 ∧ 0x8000 ≤ (0x8000 : Word).toNat ∧ 0x8000 ≤ (0xFFFE : Word).toNat ∧
    (0xFFFE : Word) ≠ 0xFFFF ∧ base.legal = true ∧ base.read16 0xFFFE = .ok 0x0000 ∧
    base.read16 0xFFFF = .error .fatalBoundsError := ⟨by decide, by decide, by decide, by decide, by decide, rfl, rfl⟩

theorem witness_PairViewsAndFlagByte : ({ base with f := 0xB0 } : State).flagsLegal = true := by decide

theorem canPush_of {s : State} (h : 0x8000 ≤ (s.sp - 2).toNat) (h' : s.sp ≠ 0x0001) : canPush s := ⟨h, h'⟩

theorem witness_StackPrimitives :
    canPush { base with sp := 0x8002 } ∧ canPush { base with sp := 0x0000 } ∧
    ((0x8001 : Word) - 2).toNat < 0x8000 ∧ ((0x0002 : Word) - 2).toNat < 0x8000 ∧ base.legal = true ∧
    ({ base with sp := 0xFFFE } : State).sp ≠ 0xFFFF :=
  ⟨⟨by decide, by decide⟩, ⟨by decide, by decide⟩, by decide, by decide, by decide, by decide⟩

theorem witness_StackRoundTrips : canPush { base with f := 0xF0 } ∧ ({ base with f := 0xF0 } : State).legal = true :=
  ⟨⟨by decide, by decide⟩, by decide⟩

theorem witness_DecodeOfEncode : Instr.wellFormed (.callNcA16 0xFFFF) = true := by decide

theorem witness_EncodeOfDecode :
    decode [0xCB, 0x00, 0x55] = .instr .rlcB [0x55] ∧ decode [0x10, 0x55] = .instr .stop [] ∧
    decode [0x10] = .instr .stop [] := by decide

theorem witness_DecodingIsTotal : (0xCB : Byte) = 0xCB ∧ ∃ i, encode i = [0xCB, 0x37] := ⟨rfl, .swapA, rfl⟩

theorem witness_CyclesReported :
    base.active ∧ decode (bytesAt base) = .instr .nop [0x00, 0x00] ∧ (∃ t, step base = .next t) ∧
    instrCost .nop = .fixed 4 ∧ instrCost .retC = .conditional .c 20 8 ∧
    condTrue .c { base with f := 0x10 } ∧ ¬condTrue .c base ∧
    decode (bytesAt (withMem [(0xC000, 0xD8)] base)) = .instr .retC [0x00, 0x00] ∧
    ∃ t, step (withMem [(0xC000, 0xD8)] { base with f := 0x10 }) = .next t :=
  ⟨⟨rfl, rfl⟩, by decide, ⟨_, rfl⟩, rfl, rfl, by simp [condTrue, State.fC], by simp [condTrue, State.fC, base, State.reset],
    by decide, ⟨_, rfl⟩⟩

/-- The hypotheses of `wordFetchFaults`, for each of the seventeen opcodes with a word operand: the statements LoadAFromMemory,
StoreAToMemory, LoadPair, StoreSp, JumpAbsolute and CallAndRestart. -/
theorem witness_wordFetchFaults (op : Byte) : (atTop op).active ∧ (atTop op).pc = 0xFFFE ∧ (atTop op).read8 0xFFFE = op := by
  refine ⟨⟨rfl, rfl⟩, rfl, ?_⟩
  have h : (atTop op).read8 0xFFFE = op :=
    (State.read8_write (s := { base with pc := 0xFFFE }) (by decide) 0xFFFE 0xFFFE op).trans (if_pos rfl)
  exact h

/-- Both sides of the boundary, for a one-byte store at `HL`: StoreAtHl, LoadStoreAdjustHl. -/
theorem witness_StoreAtHl :
    0x8000 ≤ ({ base with h := 0x80 } : State).hl.toNat ∧ ({ base with h := 0x80 } : State).legal = true ∧
    ({ base with h := 0x7F, l := 0xFF } : State).hl.toNat < 0x8000 := by decide

theorem witness_LoadStoreAdjustHl :
    ((Instr.lddAAtHl = .ldiAAtHl ∧ 0xFFFF = 1) ∨ (Instr.lddAAtHl = .lddAAtHl ∧ 0xFFFF = 0xFFFF)) ∧
    ((Instr.ldiAtHlA = .ldiAtHlA ∧ 1 = 1) ∨ (Instr.ldiAtHlA = .lddAtHlA ∧ 1 = 0xFFFF)) ∧
    0x8000 ≤ ({ base with h := 0x80 } : State).hl.toNat ∧ ({ base with h := 0x80 } : State).legal = true ∧
    ({ base with h := 0x7F, l := 0xFF } : State).hl.toNat < 0x8000 := by decide

theorem witness_StoreAToMemory :
    0x8000 ≤ ({ base with b := 0x80, d := 0x80 } : State).bc.toNat ∧
    0x8000 ≤ ({ base with b := 0x80, d := 0x80 } : State).de.toNat ∧
    ({ base with b := 0x80, d := 0x80 } : State).legal = true ∧ base.bc.toNat < 0x8000 ∧ base.de.toNat < 0x8000 ∧
    0x8000 ≤ (0x8000 : Word).toNat ∧ (0x7FFF : Word).toNat < 0x8000 := by decide

theorem witness_LoadPair : Reg16.bc ≠ .sp ∧ Reg16.de ≠ .sp ∧ Reg16.hl ≠ .sp := by decide

theorem witness_StoreSp :
    0x8000 ≤ (0x8000 : Word).toNat ∧ 0x8000 ≤ (0xFFFE : Word).toNat ∧ (0xFFFE : Word) ≠ 0xFFFF ∧ base.legal = true ∧
    (0x7FFF : Word).toNat < 0x8000 := by decide

theorem witness_PushPair :
    canPush { base with sp := 0x8002 } ∧ ({ base with sp := 0x8002 } : State).legal = true ∧
    (({ base with sp := 0x8001 } : State).sp - 2).toNat < 0x8000 ∧ ({ base with sp := 0x0001 } : State).sp = 0x0001 :=
  ⟨⟨by decide, by decide⟩, by decide, by decide, by decide⟩

theorem witness_PopPair :
    ({ base with sp := 0xFFFE } : State).sp ≠ 0xFFFF ∧ ({ base with sp := 0xFFFF } : State).sp = 0xFFFF := by decide

/-- The hypotheses of IncDecByte, RotateLeft, RotateRight and ResetAndSetBit: a register, `(HL)` at the first writable address, and `(HL)`
at the last read-only one. -/
theorem witness_writable :
    writable base (.reg .b) ∧ writable { base with h := 0x80 } .atHl ∧ ({ base with h := 0x80 } : State).legal = true ∧
    base.legal = true ∧ ({ base with h := 0x7F, l := 0xFF } : State).hl.toNat < 0x8000 :=
  ⟨(fun h => by cases h), (fun _ => by decide), by decide, by decide, by decide⟩

theorem witness_IncDecByte : writable { base with h := 0x80 } .atHl ∧ ({ base with h := 0x80 } : State).legal = true :=
  ⟨witness_writable.2.1, witness_writable.2.2.1⟩

theorem witness_RotateLeft : writable { base with h := 0x80 } .atHl ∧ ({ base with h := 0x80 } : State).legal = true :=
  ⟨witness_writable.2.1, witness_writable.2.2.1⟩

theorem witness_RotateRight : writable { base with h := 0x80 } .atHl ∧ ({ base with h := 0x80 } : State).legal = true :=
  ⟨witness_writable.2.1, witness_writable.2.2.1⟩

theorem witness_ResetAndSetBit : writable { base with h := 0x80 } .atHl ∧ ({ base with h := 0x80 } : State).legal = true :=
  ⟨witness_writable.2.1, witness_writable.2.2.1⟩

/-- `A = 0x9A` after an addition needs both corrections. -/
theorem witness_DecimalAdjust :
    (True ↔ ({ base with a := 0x9A } : State).fH = true ∨
      (({ base with a := 0x9A } : State).fN = false ∧ ({ base with a := 0x9A } : State).a.toNat % 16 > 9)) ∧
    (True ↔ ({ base with a := 0x9A } : State).fC = true ∨
      (({ base with a := 0x9A } : State).fN = false ∧ ({ base with a := 0x9A } : State).a.toNat > 0x99)) ∧
    ((True → True → 0x66 = 0x66) ∧ (True → ¬True → 0x66 = 0x06) ∧ (¬True → True → 0x66 = 0x60) ∧
      (¬True → ¬True → 0x66 = 0)) := by decide

theorem witness_DecimalArithmetic :
    99 < 100 ∧ 1 < 100 ∧ ({ base with a := 0x99, b := 0x01 } : State).a = bcd 99 ∧
    ({ base with a := 0x99, b := 0x01 } : State).b = bcd 1 := by decide

theorem witness_IncDecPair : Reg16.hl ≠ .sp := by decide

theorem witness_JumpAbsolute : condTrue .z { base with f := 0x80 } ∧ ¬condTrue .z base :=
  ⟨by simp [condTrue, State.fZ], by simp [condTrue, State.fZ, base, State.reset]⟩

/-- A jump back over address 0x0000. -/
theorem witness_JumpRelative :
    (((0xFFFF : Word).toNat : Int) = ((({ base with pc := 0x0000 } : State).pc.toNat : Int) + 2 + (0xFD : Byte).toInt) % 0x10000) ∧
    condTrue .nc base ∧ ¬condTrue .nc { base with f := 0x10 } :=
  ⟨by decide, by simp [condTrue, State.fC, base, State.reset], by simp [condTrue, State.fC]⟩

theorem witness_CallAndRestart :
    canPush { base with sp := 0x8002, f := 0x10 } ∧ ({ base with sp := 0x8002, f := 0x10 } : State).legal = true ∧
    condTrue .c { base with sp := 0x8002, f := 0x10 } ∧ ¬condTrue .c base ∧
    (({ base with sp := 0x8001 } : State).sp - 2).toNat < 0x8000 ∧ ({ base with sp := 0x0001 } : State).sp = 0x0001 :=
  ⟨⟨by decide, by decide⟩, by decide, by simp [condTrue, State.fC], by simp [condTrue, State.fC, base, State.reset],
    by decide, by decide⟩

theorem witness_Return :
    ({ base with sp := 0xFFFE, f := 0x80 } : State).sp ≠ 0xFFFF ∧ condTrue .z { base with sp := 0xFFFE, f := 0x80 } ∧
    ¬condTrue .z { base with sp := 0xFFFF } ∧ ({ base with sp := 0xFFFF } : State).sp = 0xFFFF :=
  ⟨by decide, by simp [condTrue, State.fZ], by simp [condTrue, State.fZ, base, State.reset], by decide⟩

end Sys2Proof.Tests
end

section
/-! PROOFS. 20_memory.md: the word read and the byte write. -/

namespace Sys2Proof.Machine

open Cert

/-- What is legal about a state holds of its memory in particular. -/
theorem State.wf_mem_of_legal {s : State} (h : s.legal = true) : s.mem.wf = true := by
  rw [State.legal, Bool.and_eq_true] at h
  exact h.2

/-- R53: away from the last address `read16` answers the little-endian word of its two bytes. -/
theorem State.exists_read16_isWord (s : State) {a : Word} (h : a ≠ 0xFFFF) :
    ∃ w : Word, s.read16 a = Except.ok w ∧ isWord w (s.read8 (a + 1)) (s.read8 a) :=
  ⟨_, State.read16_of_ne h, toNat_wordOf _ _⟩

/-- R54: at or above the boundary `write8` stores its byte, and neither another byte nor another field changes. -/
theorem State.exists_write8_stores {s : State} {a : Word} (v : Byte) (ha : 0x8000 ≤ a.toNat) (hm : s.mem.wf = true) :
    ∃ t, s.write8 a v = .next t ∧ (∀ x : Word, t.read8 x = if x = a then v else s.read8 x) ∧ t = { s with mem := t.mem } :=
  ⟨_, State.write8_of_ge ha, fun x => State.read8_write hm a x v, rfl⟩

/-- Settles O15: `read16` is decided by whether its address is the last one, `write8` by the boundary. -/
theorem readWordAndWriteByte : Obligations.ReadWordAndWriteByte := by
  intro s address
  refine ⟨State.exists_read16_isWord s, ?_, fun v => ⟨State.write8_of_lt, ?_⟩⟩
  · rintro rfl
    exact State.read16_top s
  · intro ha hlegal
    exact State.exists_write8_stores v ha (State.wf_mem_of_legal hlegal)

end Sys2Proof.Machine
end

section
/-! PROOFS. 30_encoding.md: every entry of the decode tables writes back its own opcode byte, so the first two bytes fix what is
decoded. -/

namespace Sys2Proof

open Machine

/-- The byte with the fields `x`, `y`, `z` (R94). -/
def opcodeOf (x : Fin 4) (y z : Fin 8) : Byte := (BitVec.ofFin x : BitVec 2) ++ (BitVec.ofFin y : BitVec 3) ++ (BitVec.ofFin z : BitVec 3)

/-- A byte is put together again from its own fields. -/
theorem opcodeOf_fields (op : Byte) : opcodeOf (opX op) (opY op) (opZ op) = op := by
  have hxy : op.extractLsb' 6 2 ++ op.extractLsb' 3 3 = op.extractLsb' 3 5 :=
    BitVec.extractLsb'_append_extractLsb'_eq_extractLsb' rfl
  have hall : op.extractLsb' 3 5 ++ op.extractLsb' 0 3 = op.extractLsb' 0 8 :=
    BitVec.extractLsb'_append_extractLsb'_eq_extractLsb' rfl
  calc opcodeOf (opX op) (opY op) (opZ op)
      = op.extractLsb' 6 2 ++ op.extractLsb' 3 3 ++ op.extractLsb' 0 3 := rfl
    _ = op.extractLsb' 0 8 := by rw [hxy, hall]
    _ = op := BitVec.extractLsb'_eq_self

/-- The entry of the base table belongs to the opcode byte `op`: what it decodes to is written as `op` and the operand's bytes. -/
def Descriptor.Encodes (op : Byte) : Descriptor → Prop
  | .plain i => encode i = [op]
  | .padded i => encode i = [op, 0x00]
  | .oneByte f => ∀ n, encode (f n) = [op, n]
  | .oneWord f => ∀ w, encode (f w) = [op, loByte w, hiByte w]

/-- The number of bytes of an instruction that is decoded from the entry (R93). -/
def Descriptor.length : Descriptor → Nat
  | .plain _ => 1
  | .padded _ | .oneByte _ => 2
  | .oneWord _ => 3

theorem Descriptor.length_bounds (d : Descriptor) : 1 ≤ d.length ∧ d.length ≤ 3 := by
  cases d <;> simp [length]

/-! ## The base table (R101) -/

theorem quadrant0_encodes (y z : Fin 8) : (quadrant0 y z).Encodes (opcodeOf 0 y z) :=
  match z with
  | 0 =>
    match y with
    | 0 | 2 => rfl
    | 1 | 3 | 4 | 5 | 6 | 7 => fun _ => rfl
  | 1 =>
    match y with
    | 0 | 2 | 4 | 6 => fun _ => rfl
    | 1 | 3 | 5 | 7 => rfl
  | 2 | 3 | 4 | 5 | 7 =>
    match y with
    | 0 | 1 | 2 | 3 | 4 | 5 | 6 | 7 => rfl
  | 6 =>
    match y with
    | 0 | 1 | 2 | 3 | 4 | 5 | 6 | 7 => fun _ => rfl

/-- Each of the 64 loads, with `HALT` among them, is compared with the opcode grid. -/
theorem quadrant1_encodes (y z : Fin 8) : (quadrant1 y z).Encodes (opcodeOf 1 y z) := by
  fin_cases y <;> fin_cases z <;> rfl

theorem encode_alu (y z : Fin 8) : encode (Forms.alu (aluTable y) (r8Table z)) = [opcodeOf 2 y z] := by
  decide +revert

theorem quadrant2_encodes (y z : Fin 8) : (quadrant2 y z).Encodes (opcodeOf 2 y z) := encode_alu y z

theorem quadrant3_encodes (y z : Fin 8) : (quadrant3 y z).Encodes (opcodeOf 3 y z) :=
  match z with
  | 0 =>
    match y with
    | 0 | 1 | 2 | 3 => rfl
    | 4 | 5 | 6 | 7 => fun _ => rfl
  | 1 | 7 =>
    match y with
    | 0 | 1 | 2 | 3 | 4 | 5 | 6 | 7 => rfl
  | 2 =>
    match y with
    | 0 | 1 | 2 | 3 | 5 | 7 => fun _ => rfl
    | 4 | 6 => rfl
  | 3 =>
    match y with
    | 0 => fun _ => rfl
    | 1 | 2 | 3 | 4 | 5 | 6 | 7 => rfl
  | 4 =>
    match y with
    | 0 | 1 | 2 | 3 => fun _ => rfl
    | 4 | 5 | 6 | 7 => rfl
  | 5 =>
    match y with
    | 0 | 2 | 3 | 4 | 5 | 6 | 7 => rfl
    | 1 => fun _ => rfl
  | 6 =>
    match y with
    | 0 | 1 | 2 | 3 | 4 | 5 | 6 | 7 => fun _ => rfl

/-- The entry 0xCB is no exception: `PREFIX CB` is written as its one byte. -/
theorem baseDescriptor_encodes (op : Byte) : (baseDescriptor op).Encodes op := by
  have hop := opcodeOf_fields op
  unfold baseDescriptor
  generalize opX op = x, opY op = y, opZ op = z at *
  subst hop
  match x with
  | 0 => exact quadrant0_encodes y z
  | 1 => exact quadrant1_encodes y z
  | 2 => exact quadrant2_encodes y z
  | 3 => exact quadrant3_encodes y z

/-! ## The extended table (R102) -/

theorem encode_rot (y z : Fin 8) : encode (Forms.rot (rotTable y) (r8Table z)) = [0xCB, opcodeOf 0 y z] := by
  decide +revert

theorem encode_bit (y z : Fin 8) : encode (Forms.bit y (r8Table z)) = [0xCB, opcodeOf 1 y z] := by
  decide +revert

theorem encode_res (y z : Fin 8) : encode (Forms.res y (r8Table z)) = [0xCB, opcodeOf 2 y z] := by
  decide +revert

theorem encode_set (y z : Fin 8) : encode (Forms.set y (r8Table z)) = [0xCB, opcodeOf 3 y z] := by
  decide +revert

theorem encode_extendedInstr (op2 : Byte) : encode (extendedInstr op2) = [0xCB, op2] := by
  have hop := opcodeOf_fields op2
  unfold extendedInstr
  generalize opX op2 = x, opY op2 = y, opZ op2 = z at *
  subst hop
  match x with
  | 0 => exact encode_rot y z
  | 1 => exact encode_bit y z
  | 2 => exact encode_res y z
  | 3 => exact encode_set y z

/-! ## What the decoder answers -/

theorem length_encode (i : Instr) : (encode i).length = instrLength i := by
  cases i <;> rfl

/-- Only `PREFIX CB` is written as the byte 0xCB alone. -/
theorem wellFormed_of_encode_ne {i : Instr} (h : encode i ≠ [0xCB]) : i.wellFormed = true := by
  rw [Instr.wellFormed, decide_eq_true_iff]
  rintro rfl
  exact h rfl

/-- R92: after 0xCB the second byte selects the instruction. -/
theorem decode_extended (op2 : Byte) (rest : List Byte) :
    decode (0xCB :: op2 :: rest) = .instr (extendedInstr op2) rest := rfl

/-- R90: any other first byte selects an entry of the base table. -/
theorem decode_base {op : Byte} (h : op ≠ 0xCB) (rest : List Byte) :
    decode (op :: rest) = decodeOperand (baseDescriptor op) rest := if_neg h

/-- Two bytes after the opcode are enough for every entry, and they decode to an instruction of the entry's length. -/
theorem decodeOperand_of_encodes {d : Descriptor} {op : Byte} (h : d.Encodes op) (b1 b2 : Byte) :
    ∃ i, decodeOperand d [b1, b2] = .instr i ([op, b1, b2].drop d.length) ∧ (encode i).head? = some op ∧
      (encode i).length = d.length := by
  cases d with
  | plain i => exact ⟨i, rfl, congrArg List.head? h, congrArg List.length h⟩
  | padded i => exact ⟨i, rfl, congrArg List.head? h, congrArg List.length h⟩
  | oneByte f => exact ⟨f b1, rfl, congrArg List.head? (h b1), congrArg List.length (h b1)⟩
  | oneWord f => exact ⟨_, rfl, congrArg List.head? (h (wordOf b2 b1)), congrArg List.length (h (wordOf b2 b1))⟩

/-- Settles O22: the length is 2 after 0xCB, and otherwise that of the base-table entry of the first byte. -/
theorem decodingIsTotal : Obligations.DecodingIsTotal := by
  intro b0 b1
  by_cases hb0 : b0 = 0xCB
  · subst hb0
    have henc := encode_extendedInstr b1
    have hlen : instrLength (extendedInstr b1) = 2 := (length_encode _).symm.trans (congrArg List.length henc)
    refine ⟨2, by decide, by decide, fun b2 => ?_, fun _ => ⟨extendedInstr b1, henc, decode_extended b1⟩⟩
    exact ⟨extendedInstr b1, [b2], decode_extended b1 [b2], wellFormed_of_encode_ne (by simp [henc]), hlen, rfl,
      congrArg List.head? henc⟩
  · obtain ⟨hpos, hle⟩ := (baseDescriptor b0).length_bounds
    refine ⟨(baseDescriptor b0).length, hpos, hle, fun b2 => ?_, fun h => absurd h hb0⟩
    obtain ⟨i, hdec, hhead, hlen⟩ := decodeOperand_of_encodes (baseDescriptor_encodes b0) b1 b2
    have hwf : i.wellFormed = true := by
      apply wellFormed_of_encode_ne
      intro hi
      rw [hi] at hhead
      exact hb0 (Option.some.inj hhead).symm
    exact ⟨i, _, (decode_base hb0 _).trans hdec, hwf, (length_encode i).symm.trans hlen, rfl, hhead⟩

end Sys2Proof
end

section
/-! PROOFS. 30_encoding.md: how the entry of the base table gives an instruction's encoding, and the fault in fetching a word operand. -/

namespace Sys2Proof.Cert

open Machine

theorem encodes_of_baseDescriptor {op : Byte} {d : Descriptor} (h : baseDescriptor op = d) : d.Encodes op :=
  h ▸ baseDescriptor_encodes op

theorem codedAs_of_plain {op : Byte} {i : Instr} (h : baseDescriptor op = .plain i) (hop : op ≠ 0xCB) : codedAs i [op] := by
  refine ⟨encodes_of_baseDescriptor h, fun rest => (decode_base hop rest).trans ?_⟩
  rw [h, decodeOperand]

theorem codedAs_of_oneByte {op : Byte} {f : Byte → Instr} (h : baseDescriptor op = .oneByte f) (hop : op ≠ 0xCB) (n : Byte) :
    codedAs (f n) [op, n] := by
  refine ⟨encodes_of_baseDescriptor h n, fun rest => (decode_base hop (n :: rest)).trans ?_⟩
  rw [h, decodeOperand]

theorem codedAs_of_oneWord {op : Byte} {f : Word → Instr} (h : baseDescriptor op = .oneWord f) (hop : op ≠ 0xCB) (w : Word) :
    codedAs (f w) [op, loByte w, hiByte w] := by
  refine ⟨encodes_of_baseDescriptor h w, fun rest => (decode_base hop (loByte w :: hiByte w :: rest)).trans ?_⟩
  rw [h, decodeOperand, wordOf_hiByte_loByte]

/-- R56, D23: the operand word of an opcode at 0xFFFE lies at 0xFFFF, and the fetch ends there. -/
theorem wordFetchFaults_of_oneWord {op : Byte} {f : Word → Instr} (h : baseDescriptor op = .oneWord f) (hop : op ≠ 0xCB) :
    wordFetchFaults op := by
  intro s ⟨hrun, hlive⟩ hpc hread
  have hread16 : s.read16 (s.pc + 1) = .error .fatalBoundsError := by
    rw [hpc]
    exact s.read16_top
  have hfetch : fetch s = .error .fatalBoundsError := by
    rw [fetch, hpc, hread, if_neg hop, h, fetchOperand, hread16]
  simp [step, stepRunning, hrun, hlive, hfetch, raiseFault]

end Sys2Proof.Cert
end

section
/-! PROOFS. What the state updates leave unchanged, in the words of the statements. -/

namespace Sys2Proof.Machine

@[simp] theorem State.hl_advance (s : State) (n : Word) : (s.advance n).hl = s.hl := rfl

@[simp] theorem State.hl_setHl (s : State) (v : Word) : (s.setHl v).hl = v := wordOf_hiByte_loByte v

theorem State.read8_write_self {s : State} (hlegal : s.legal = true) (a : Word) (v : Byte) :
    State.read8 { s with mem := s.mem.write a.toNat v } a = v := by
  rw [State.read8_write (State.wf_mem_of_legal hlegal), if_pos rfl]

theorem State.reg_setHl_of_ne {s : State} {v : Word} {r : Reg8} (hh : r ≠ .h) (hl : r ≠ .l) :
    (s.setHl v).reg r = s.reg r := by
  cases r with
  | h => exact absurd rfl hh
  | l => exact absurd rfl hl
  | b | c | d | e | a => rfl

end Sys2Proof.Machine

namespace Sys2Proof.Cert

open Machine

theorem frame_setReg (s : State) (r : Reg8) (v : Byte) : frame [r] [] s (s.setReg r v) :=
  ⟨fun r' hr' => by rw [State.reg_setReg, if_neg (List.ne_of_not_mem_cons hr')], fun x _ => s.read8_setReg r v x,
    s.setReg_faulted r v⟩

theorem frame_write (s : State) (a : Word) (v : Byte) : frame [] [a] s { s with mem := s.mem.write a.toNat v } :=
  ⟨fun r _ => by cases r <;> rfl, fun _ hx => State.read8_write_other (List.ne_of_not_mem_cons hx), rfl⟩

theorem frame.setHl {regs : List Reg8} {stored : List Word} {s t : State} (hf : frame regs stored s t) (v : Word) :
    frame (regs ++ [.h, .l]) stored s (t.setHl v) := by
  obtain ⟨hreg, hmem, hfaulted⟩ := hf
  refine ⟨fun r hr => ?_, hmem, hfaulted⟩
  simp only [List.mem_append, List.mem_cons, List.not_mem_nil, or_false, not_or] at hr
  obtain ⟨hr, hh, hl⟩ := hr
  exact (State.reg_setHl_of_ne hh hl).trans (hreg r hr)

theorem frame.advance {regs : List Reg8} {stored : List Word} {s t : State} (hf : frame regs stored s t) (n : Word) :
    frame regs stored s (t.advance n) := by
  obtain ⟨hreg, hmem, hfaulted⟩ := hf
  exact ⟨fun r hr => (t.reg_advance n r).trans (hreg r hr), hmem, hfaulted⟩

end Sys2Proof.Cert
end

section
/-! PROOFS. 40_load8.md: the 8-bit loads and stores. -/

namespace Sys2Proof.Machine

open Cert

/-! ## The shared operations -/

/-- The common effect of R130 to R132, R135, R136, R139, R141 and R143. -/
theorem exists_loadReg (r : Reg8) (v : Byte) (n : Word) (s : State) :
    ∃ t, loadReg r v n s = .next t ∧ t.reg r = v ∧ frame [r] [] s t ∧ t.f = s.f ∧ plainEnd n s t := by
  refine ⟨_, rfl, ?_, (frame_setReg s r v).advance n, ?_, ?_⟩ <;> simp [plainEnd, controlKept]

theorem loadsA_of_exec {i : Instr} {v : Byte} {n : Word} {s : State} (h : exec i s = loadReg .a v n s) : loadsA i v n s := by
  unfold loadsA
  rw [h]
  exact exists_loadReg .a v n s

/-- The common effect of R133, R134, R137, R138, R140, R142 and R144. -/
theorem storesByte_of_exec {i : Instr} {a : Word} {v : Byte} {n : Word} {s : State} (h : exec i s = storeByte a v n s) :
    storesByte i a v n s := by
  unfold storesByte
  rw [h]
  rcases storeByte_cases a v n s with ⟨hlt, hfault⟩ | ⟨hge, hnext⟩
  · exact ⟨fun hge => absurd hlt (Nat.not_lt.2 hge), fun _ => hfault⟩
  · refine ⟨fun _ hlegal => ⟨_, hnext, ?_, (frame_write s a v).advance n, rfl, ⟨rfl, rfl⟩, rfl, rfl⟩,
      fun hlt => absurd hlt (Nat.not_lt.2 hge)⟩
    exact State.read8_write_self hlegal a v

/-- The common effect of R146 and R148. -/
theorem exists_loadThenAdjustHl (delta : Word) (s : State) :
    ∃ t, loadThenAdjustHl delta s = .next t ∧ t.a = s.read8 s.hl ∧ t.hl.toNat = (s.hl.toNat + delta.toNat) % 0x10000 ∧
      frame [.a, .h, .l] [] s t ∧ t.f = s.f ∧ plainEnd 1 s t := by
  refine ⟨_, rfl, rfl, ?_, ((frame_setReg s .a _).setHl _).advance 1, rfl, ⟨rfl, rfl⟩, rfl, rfl⟩
  rw [State.hl_advance, State.hl_setHl]
  exact BitVec.toNat_add s.hl delta

/-- The common effect of R145 and R147 at or above the boundary. -/
theorem exists_storeThenAdjustHl (delta : Word) {s : State} (hge : 0x8000 ≤ s.hl.toNat) (hlegal : s.legal = true) :
    ∃ t, storeThenAdjustHl delta s = .next t ∧ t.read8 s.hl = s.a ∧
      t.hl.toNat = (s.hl.toNat + delta.toNat) % 0x10000 ∧ frame [.h, .l] [s.hl] s t ∧ t.f = s.f ∧ plainEnd 1 s t := by
  rcases storeThenAdjustHl_cases delta s with ⟨hlt, -⟩ | ⟨-, hnext⟩
  · exact absurd hlt (Nat.not_lt.2 hge)
  · refine ⟨_, hnext, ?_, ?_, ((frame_write s s.hl s.a).setHl _).advance 1, rfl, ⟨rfl, rfl⟩, rfl, rfl⟩
    · exact State.read8_write_self hlegal s.hl s.a
    · rw [State.hl_advance, State.hl_setHl]
      exact BitVec.toNat_add s.hl delta

theorem storeThenAdjustHl_of_lt (delta : Word) {s : State} (hlt : s.hl.toNat < 0x8000) :
    storeThenAdjustHl delta s = .fault .fatalWriteProtectionError := by
  rcases storeThenAdjustHl_cases delta s with ⟨-, hfault⟩ | ⟨hge, -⟩
  · exact hfault
  · exact absurd hlt (Nat.not_lt.2 hge)

/-! ## The high page -/

theorem toNat_highAddress (a8 : Byte) : (highAddress a8).toNat = 0xFF00 + a8.toNat := by
  have h := a8.isLt
  have hpage : BitVec.toNat Config.highPage = 0xFF00 := rfl
  rw [highAddress, zext16, BitVec.toNat_add, BitVec.toNat_setWidth, hpage]
  omega

theorem highAddress_eq_ofNat (a8 : Byte) : highAddress a8 = BitVec.ofNat 16 (0xFF00 + a8.toNat) := by
  rw [← toNat_highAddress, BitVec.ofNat_toNat, BitVec.setWidth_eq]

/-- The high page lies above the boundary, so a store there never faults (R142, R144). -/
theorem exists_storeByte_highAddress (a8 v : Byte) (n : Word) (s : State) :
    ∃ t, storeByte (highAddress a8) v n s = .next t := by
  rcases storeByte_cases (highAddress a8) v n s with ⟨hlt, -⟩ | ⟨-, hnext⟩
  · rw [toNat_highAddress] at hlt
    omega
  · exact ⟨_, hnext⟩

/-! ## The encodings of the register forms -/

theorem codedAs_ldRegReg (r r' : Reg8) : codedAs (Forms.ldRegReg r r') [0x40 + 8 * regIndex r + regIndex r'] := by
  cases r <;> cases r' <;> exact codedAs_of_plain rfl (by decide)

theorem costs_ldRegReg (r r' : Reg8) : costs (Forms.ldRegReg r r') 1 (.fixed 4) := by
  cases r <;> cases r' <;> exact ⟨rfl, rfl⟩

theorem codedAs_ldRegImm (r : Reg8) (n8 : Byte) : codedAs (Forms.ldRegImm r n8) [0x06 + 8 * regIndex r, n8] := by
  cases r <;> exact codedAs_of_oneByte rfl (by decide) n8

theorem costs_ldRegImm (r : Reg8) (n8 : Byte) : costs (Forms.ldRegImm r n8) 2 (.fixed 8) := by
  cases r <;> exact ⟨rfl, rfl⟩

theorem codedAs_ldRegAtHl (r : Reg8) : codedAs (Forms.ldRegAtHl r) [0x46 + 8 * regIndex r] := by
  cases r <;> exact codedAs_of_plain rfl (by decide)

theorem costs_ldRegAtHl (r : Reg8) : costs (Forms.ldRegAtHl r) 1 (.fixed 8) := by
  cases r <;> exact ⟨rfl, rfl⟩

theorem codedAs_ldAtHlReg (r : Reg8) : codedAs (Forms.ldAtHlReg r) [0x70 + regIndex r] := by
  cases r <;> exact codedAs_of_plain rfl (by decide)

theorem costs_ldAtHlReg (r : Reg8) : costs (Forms.ldAtHlReg r) 1 (.fixed 8) := by
  cases r <;> exact ⟨rfl, rfl⟩

/-! ## The statements -/

/-- Settles O25: each form is one `loadReg`, whose value is read before the register is written. -/
theorem loadRegister : Obligations.LoadRegister := by
  intro r s
  refine ⟨fun r' => ⟨codedAs_ldRegReg r r', costs_ldRegReg r r', ?_⟩,
    fun n8 => ⟨codedAs_ldRegImm r n8, costs_ldRegImm r n8, ?_⟩, codedAs_ldRegAtHl r, costs_ldRegAtHl r, ?_⟩
  · rw [exec_ldRegReg]
    exact exists_loadReg r (s.reg r') 1 s
  · rw [exec_ldRegImm]
    exact exists_loadReg r n8 2 s
  · rw [exec_ldRegAtHl]
    exact exists_loadReg r (s.read8 s.hl) 1 s

/-- Settles O26: both forms are one `storeByte` at `HL`. -/
theorem storeAtHl : Obligations.StoreAtHl := by
  intro s
  refine ⟨fun r => ?_, fun n8 => ?_⟩
  · exact ⟨codedAs_ldAtHlReg r, costs_ldAtHlReg r, storesByte_of_exec (exec_ldAtHlReg r s)⟩
  · exact ⟨codedAs_of_oneByte (f := .ldAtHlN8) rfl (by decide) n8, ⟨rfl, rfl⟩, storesByte_of_exec rfl⟩

/-- Settles O27: each load of `A` is one `loadReg`, and the word form's operand can fault in the fetch. -/
theorem loadAFromMemory : Obligations.LoadAFromMemory := by
  intro s
  simp only [← highAddress_eq_ofNat]
  refine ⟨?_, ?_, ?_, fun a8 => ?_, fun a16 => ?_, wordFetchFaults_of_oneWord (f := .ldAAtA16) rfl (by decide)⟩
  · exact ⟨codedAs_of_plain rfl (by decide), ⟨rfl, rfl⟩, loadsA_of_exec rfl⟩
  · exact ⟨codedAs_of_plain rfl (by decide), ⟨rfl, rfl⟩, loadsA_of_exec rfl⟩
  · exact ⟨codedAs_of_plain rfl (by decide), ⟨rfl, rfl⟩, loadsA_of_exec rfl⟩
  · exact ⟨codedAs_of_oneByte (f := .ldhAAtA8) rfl (by decide) a8, ⟨rfl, rfl⟩, loadsA_of_exec rfl⟩
  · exact ⟨codedAs_of_oneWord (f := .ldAAtA16) rfl (by decide) a16, ⟨rfl, rfl⟩, loadsA_of_exec rfl⟩

/-- Settles O28: each store of `A` is one `storeByte`, and the high page is always writable. -/
theorem storeAToMemory : Obligations.StoreAToMemory := by
  intro s
  simp only [← highAddress_eq_ofNat]
  refine ⟨?_, ?_, ?_, fun a8 => ?_, fun a16 => ?_, wordFetchFaults_of_oneWord (f := .ldAtA16A) rfl (by decide)⟩
  · exact ⟨codedAs_of_plain rfl (by decide), ⟨rfl, rfl⟩, storesByte_of_exec rfl⟩
  · exact ⟨codedAs_of_plain rfl (by decide), ⟨rfl, rfl⟩, storesByte_of_exec rfl⟩
  · exact ⟨codedAs_of_plain rfl (by decide), ⟨rfl, rfl⟩, storesByte_of_exec rfl,
      exists_storeByte_highAddress s.c s.a 1 s⟩
  · exact ⟨codedAs_of_oneByte (f := .ldhAtA8A) rfl (by decide) a8, ⟨rfl, rfl⟩, storesByte_of_exec rfl,
      exists_storeByte_highAddress a8 s.a 2 s⟩
  · exact ⟨codedAs_of_oneWord (f := .ldAtA16A) rfl (by decide) a16, ⟨rfl, rfl⟩, storesByte_of_exec rfl⟩

/-- Settles O29: `LDI` adjusts `HL` by 1 and `LDD` by the word -1, which is 0xFFFF as a number. -/
theorem loadStoreAdjustHl : Obligations.LoadStoreAdjustHl := by
  refine ⟨?_, ?_, ?_⟩
  · exact ⟨codedAs_of_plain rfl (by decide), ⟨rfl, rfl⟩, codedAs_of_plain rfl (by decide), ⟨rfl, rfl⟩,
      codedAs_of_plain rfl (by decide), ⟨rfl, rfl⟩, codedAs_of_plain rfl (by decide), ⟨rfl, rfl⟩⟩
  · rintro s i delta (⟨rfl, rfl⟩ | ⟨rfl, rfl⟩)
    · exact exists_loadThenAdjustHl 1 s
    · exact exists_loadThenAdjustHl (-1) s
  · rintro s i delta (⟨rfl, rfl⟩ | ⟨rfl, rfl⟩)
    · exact ⟨exists_storeThenAdjustHl 1, storeThenAdjustHl_of_lt 1⟩
    · exact ⟨exists_storeThenAdjustHl (-1), storeThenAdjustHl_of_lt (-1)⟩

end Sys2Proof.Machine
end

section
/-! PROOFS. What writing a register, a pair, `SP` or the flags leaves unchanged, in the words of the statements. -/

namespace Sys2Proof.Cert

open Machine

theorem isWord_hiByte_loByte (w : Word) : isWord w (hiByte w) (loByte w) := by
  have h := toNat_wordOf (hiByte w) (loByte w)
  rwa [wordOf_hiByte_loByte] at h

theorem frame_refl (s : State) : frame [] [] s s :=
  ⟨fun _ _ => rfl, fun _ _ => rfl, rfl⟩

theorem frame.setReg {regs : List Reg8} {stored : List Word} {s t : State} (hf : frame regs stored s t) (r : Reg8)
    (v : Byte) : frame (regs ++ [r]) stored s (t.setReg r v) := by
  obtain ⟨hreg, hmem, hfaulted⟩ := hf
  refine ⟨fun r' hr' => ?_, fun x hx => (t.read8_setReg r v x).trans (hmem x hx), (t.setReg_faulted r v).trans hfaulted⟩
  rw [List.mem_append, List.mem_singleton, not_or] at hr'
  obtain ⟨hregs, hne⟩ := hr'
  rw [State.reg_setReg, if_neg hne, hreg r' hregs]

theorem frame.setSp {regs : List Reg8} {stored : List Word} {s t : State} (hf : frame regs stored s t) (v : Word) :
    frame regs stored s (t.setSp v) := by
  obtain ⟨hreg, hmem, hfaulted⟩ := hf
  exact ⟨fun r hr => (t.reg_setSp v r).trans (hreg r hr), hmem, hfaulted⟩

theorem frame.setFlags {regs : List Reg8} {stored : List Word} {s t : State} (hf : frame regs stored s t) (g : FlagSet) :
    frame regs stored s (t.setFlags g) := by
  obtain ⟨hreg, hmem, hfaulted⟩ := hf
  exact ⟨fun r hr => (t.reg_setFlags g r).trans (hreg r hr), hmem, hfaulted⟩

/-- Writing a pair is writing its two registers one after the other. -/
theorem frame.setPair {regs : List Reg8} {stored : List Word} {s t : State} (hf : frame regs stored s t) (p : Reg16)
    (v : Word) : frame (regs ++ pairRegs p) stored s (t.setPair p v) := by
  cases p with
  | bc => exact List.append_assoc regs [.b] [.c] ▸ (hf.setReg .b (hiByte v)).setReg .c (loByte v)
  | de => exact List.append_assoc regs [.d] [.e] ▸ (hf.setReg .d (hiByte v)).setReg .e (loByte v)
  | hl => exact hf.setHl v
  | sp => exact (List.append_nil regs).symm ▸ hf.setSp v

/-- R21, R22: of the registers of `r8`, writing `AF` changes `A` only. -/
theorem frame.setAf {regs : List Reg8} {stored : List Word} {s t : State} (hf : frame regs stored s t) (v : Word) :
    frame (regs ++ [.a]) stored s (t.setAf v) := by
  obtain ⟨hreg, hmem, hfaulted⟩ := hf.setReg .a (hiByte v)
  refine ⟨fun r hr => ?_, hmem, hfaulted⟩
  rw [← hreg r hr]
  cases r <;> rfl

end Sys2Proof.Cert
end

section
/-! PROOFS. 20_memory.md R55, 41_load16_stack.md R170 and R171: the word write and the two stack primitives. -/

namespace Sys2Proof.Machine

open Cert

/-! ## The word write -/

/-- The state after a `write16` that does not fault (R55). -/
def State.afterWrite16 (s : State) (a v : Word) : State :=
  { s with mem := (s.mem.write a.toNat (loByte v)).write (a.toNat + 1) (hiByte v) }

theorem State.write16_of_lt {s : State} {a : Word} (h : a.toNat < 0x8000) (v : Word) :
    s.write16 a v = .fault .fatalWriteProtectionError := by
  rcases s.write16_cases a v with ⟨-, e⟩ | ⟨rfl, -⟩ | ⟨hge, -, -⟩
  · exact e
  · exact absurd h (by decide)
  · exact absurd h (Nat.not_lt.2 hge)

theorem State.write16_top (s : State) (v : Word) : s.write16 0xFFFF v = .fault .fatalBoundsError := rfl

theorem State.write16_of_ge {s : State} {a : Word} (hge : 0x8000 ≤ a.toNat) (hne : a ≠ 0xFFFF) (v : Word) :
    s.write16 a v = .next (s.afterWrite16 a v) := by
  rcases s.write16_cases a v with ⟨hlt, -⟩ | ⟨htop, -⟩ | ⟨-, -, e⟩
  · exact absurd hge (Nat.not_le.2 hlt)
  · exact absurd htop hne
  · exact e

theorem State.read8_afterWrite16_low {s : State} (hlegal : s.legal = true) {a : Word} (ha : a ≠ 0xFFFF) (v : Word) :
    (s.afterWrite16 a v).read8 a = loByte v := by
  have hne : a ≠ a + 1 := by bv_omega
  rw [State.afterWrite16, State.read8_writeWord (State.wf_mem_of_legal hlegal) ha, if_neg hne, if_pos rfl]

theorem State.read8_afterWrite16_high {s : State} (hlegal : s.legal = true) {a : Word} (ha : a ≠ 0xFFFF) (v : Word) :
    (s.afterWrite16 a v).read8 (a + 1) = hiByte v := by
  rw [State.afterWrite16, State.read8_writeWord (State.wf_mem_of_legal hlegal) ha, if_pos rfl]

/-- The frame needs no canonical memory: a store leaves another address alone in any list. -/
theorem frame_afterWrite16 (s : State) {a : Word} (ha : a ≠ 0xFFFF) (v : Word) :
    frame [] [a, a + 1] s (s.afterWrite16 a v) := by
  refine ⟨fun r _ => by cases r <;> rfl, fun x hx => ?_, rfl⟩
  simp only [List.mem_cons, List.not_mem_nil, or_false, not_or] at hx
  obtain ⟨hlo, hhi⟩ := hx
  rw [State.afterWrite16, ← toNat_succ_of_ne ha]
  exact (State.read8_write_other (s := { s with mem := s.mem.write a.toNat (loByte v) }) hhi).trans
    (State.read8_write_other hlo)

/-! ## The stack pointer -/

/-- The word below the stack ends one byte below `SP`. -/
theorem sub_two_add_one (w : Word) : w - 2 + 1 = w - 1 := by
  bv_omega

/-- R170: the new `SP` of a push is the last address just when the old one is 0x0001. -/
theorem sub_two_eq_top_iff (w : Word) : w - 2 = 0xFFFF ↔ w = 0x0001 := by
  bv_omega

theorem ne_top_of_canPush {s : State} (h : canPush s) : s.sp - 2 ≠ 0xFFFF := fun htop =>
  h.2 ((sub_two_eq_top_iff s.sp).1 htop)

/-! ## The push -/

/-- The state after a push of `v` that does not fault (R170). -/
def State.afterPush (s : State) (v : Word) : State := (s.setSp (s.sp - 2)).afterWrite16 (s.sp - 2) v

@[simp] theorem State.afterPush_sp (s : State) (v : Word) : (s.afterPush v).sp = s.sp - 2 := rfl

theorem State.push16_of_lt {s : State} (h : (s.sp - 2).toNat < 0x8000) (v : Word) :
    s.push16 v = .fault .fatalWriteProtectionError :=
  State.write16_of_lt h v

theorem State.push16_of_eq_one {s : State} (h : s.sp = 0x0001) (v : Word) : s.push16 v = .fault .fatalBoundsError := by
  rw [State.push16, (sub_two_eq_top_iff s.sp).2 h, State.write16_top]

theorem State.push16_of_canPush {s : State} (h : canPush s) (v : Word) : s.push16 v = .next (s.afterPush v) :=
  State.write16_of_ge h.1 (ne_top_of_canPush h) v

theorem State.read8_afterPush_low {s : State} (h : canPush s) (hlegal : s.legal = true) (v : Word) :
    (s.afterPush v).read8 (s.sp - 2) = loByte v :=
  State.read8_afterWrite16_low (s := s.setSp (s.sp - 2)) hlegal (ne_top_of_canPush h) v

theorem State.read8_afterPush_high {s : State} (h : canPush s) (hlegal : s.legal = true) (v : Word) :
    (s.afterPush v).read8 (s.sp - 1) = hiByte v := by
  rw [← sub_two_add_one]
  exact State.read8_afterWrite16_high (s := s.setSp (s.sp - 2)) hlegal (ne_top_of_canPush h) v

theorem pushed_afterPush {s : State} (h : canPush s) (hlegal : s.legal = true) (v : Word) : pushed v s (s.afterPush v) := by
  refine ⟨rfl, ?_⟩
  rw [State.read8_afterPush_low h hlegal, State.read8_afterPush_high h hlegal]
  exact isWord_hiByte_loByte v

theorem frame_afterPush {s : State} (h : canPush s) (v : Word) : frame [] [s.sp - 2, s.sp - 1] s (s.afterPush v) := by
  rw [← sub_two_add_one]
  exact (frame_afterWrite16 s (ne_top_of_canPush h) v).setSp (s.sp - 2)

/-! ## The pop -/

theorem State.withPop16_of_top {s : State} (h : s.sp = 0xFFFF) (k : Word → State → Result) :
    s.withPop16 k = .fault .fatalBoundsError := by
  rcases s.withPop16_cases k with ⟨-, e⟩ | ⟨hne, -⟩
  · exact e
  · exact absurd h hne

theorem State.withPop16_of_ne {s : State} (h : s.sp ≠ 0xFFFF) (k : Word → State → Result) :
    s.withPop16 k = k (wordOf (s.read8 (s.sp + 1)) (s.read8 s.sp)) { s with sp := s.sp + 2 } := by
  rcases s.withPop16_cases k with ⟨htop, -⟩ | ⟨-, e⟩
  · exact absurd htop h
  · exact e

/-- R171: a pop right after a push gives the word and the old `SP` back. -/
theorem State.withPop16_afterPush {s : State} (h : canPush s) (hlegal : s.legal = true) (v : Word)
    (k : Word → State → Result) : (s.afterPush v).withPop16 k = k v { s.afterPush v with sp := s.sp } := by
  have hsp : s.sp - 2 + 2 = s.sp := BitVec.sub_add_cancel s.sp 2
  rw [State.withPop16_of_ne (ne_top_of_canPush h), State.afterPush_sp, sub_two_add_one, hsp,
    State.read8_afterPush_low h hlegal, State.read8_afterPush_high h hlegal, wordOf_hiByte_loByte]

end Sys2Proof.Machine
end

section
/-! PROOFS. 41_load16_stack.md: the 16-bit loads and the stack instructions. -/

namespace Sys2Proof.Machine

open Cert

/-! ## The loads of a pair -/

theorem State.pair_setPair_advance (s : State) (p : Reg16) (v n : Word) : ((s.setPair p v).advance n).pair p = v := by
  cases p with
  | bc | de | hl => exact wordOf_hiByte_loByte v
  | sp => rfl

theorem State.setPair_sp_of_ne {p : Reg16} (h : p ≠ .sp) (s : State) (v : Word) : (s.setPair p v).sp = s.sp := by
  cases p with
  | bc | de | hl => rfl
  | sp => exact absurd rfl h

/-- The common effect of R172 and R174. -/
theorem exists_loadPair (p : Reg16) (v n : Word) (s : State) :
    ∃ t, loadPair p v n s = .next t ∧ t.pair p = v ∧ frame (pairRegs p) [] s t ∧ t.f = s.f ∧ controlKept s t ∧
      (p ≠ .sp → t.sp = s.sp) ∧ t.pc = s.pc + n := by
  refine ⟨_, rfl, s.pair_setPair_advance p v n, ((frame_refl s).setPair p v).advance n, ?_, ?_,
    fun h => State.setPair_sp_of_ne h s v, ?_⟩ <;> simp [controlKept]

theorem baseDescriptor_ldPairImm (p : Reg16) : baseDescriptor (0x01 + 16 * pairIndex p) = .oneWord (Forms.ldPairImm p) := by
  cases p <;> rfl

theorem ldPairImm_opcode_ne_extendedByte (p : Reg16) : 0x01 + 16 * pairIndex p ≠ 0xCB := by
  cases p <;> decide

theorem costs_ldPairImm (p : Reg16) (n16 : Word) : costs (Forms.ldPairImm p n16) 3 (.fixed 12) := by
  cases p <;> exact ⟨rfl, rfl⟩

/-! ## The store of `SP` -/

/-- The effect of R173 away from its faults. -/
theorem exists_storeWord {a : Word} (hge : 0x8000 ≤ a.toNat) (hne : a ≠ 0xFFFF) (v n : Word) {s : State}
    (hlegal : s.legal = true) :
    ∃ t, storeWord a v n s = .next t ∧ isWord v (t.read8 (a + 1)) (t.read8 a) ∧ frame [] [a, a + 1] s t ∧ t.f = s.f ∧
      plainEnd n s t := by
  have hnext : storeWord a v n s = .next ((s.afterWrite16 a v).advance n) := by
    rw [storeWord, State.write16_of_ge hge hne, Result.andThen_next, finish_eq]
  refine ⟨_, hnext, ?_, (frame_afterWrite16 s hne v).advance n, rfl, ⟨rfl, rfl⟩, rfl, rfl⟩
  rw [State.read8_advance, State.read8_advance, State.read8_afterWrite16_low hlegal hne,
    State.read8_afterWrite16_high hlegal hne]
  exact isWord_hiByte_loByte v

theorem storeWord_top (v n : Word) (s : State) : storeWord 0xFFFF v n s = .fault .fatalBoundsError := by
  rw [storeWord, State.write16_top, Result.andThen_fault]

theorem storeWord_of_lt {a : Word} (hlt : a.toNat < 0x8000) (v n : Word) (s : State) :
    storeWord a v n s = .fault .fatalWriteProtectionError := by
  rw [storeWord, State.write16_of_lt hlt, Result.andThen_fault]

/-! ## `SP` plus a signed byte -/

theorem toNat_sext16 (e8 : Byte) : ((sext16 e8).toNat : Int) = e8.toInt % 0x10000 := by
  rw [sext16, BitVec.signExtend, BitVec.toNat_ofInt]
  omega

theorem toNat_add_sext16 (w : Word) (e8 : Byte) : ((w + sext16 e8).toNat : Int) = ((w.toNat : Int) + e8.toInt) % 0x10000 := by
  have h := toNat_sext16 e8
  rw [BitVec.toNat_add]
  omega

@[simp] theorem State.hl_setFlags (s : State) (g : FlagSet) : (s.setFlags g).hl = s.hl := rfl

/-- R175, R243: `fZ` and `fN` are 0, `fH` and `fC` the carries of the unsigned addition. -/
theorem flagsAre_spDisplacement (s : State) (sp : Word) (e8 : Byte) (n : Word) :
    flagsAre False False (sp.toNat % 16 + e8.toNat % 16 > 0xF) (sp.toNat % 256 + e8.toNat > 0xFF)
      ((s.setFlags (spDisplacementFlags sp e8)).advance n) := by
  simp [flagsAre, spDisplacementFlags, State.flagsLegal]

/-- The effect of R175. -/
theorem exists_loadHlFromSp (e8 : Byte) (s : State) :
    ∃ t, loadHlFromSp e8 s = .next t ∧ (t.hl.toNat : Int) = ((s.sp.toNat : Int) + e8.toInt) % 0x10000 ∧
      flagsAre False False (s.sp.toNat % 16 + e8.toNat % 16 > 0xF) (s.sp.toNat % 256 + e8.toNat > 0xFF) t ∧
      frame [.h, .l] [] s t ∧ plainEnd 2 s t := by
  refine ⟨_, rfl, ?_, flagsAre_spDisplacement _ s.sp e8 2, (((frame_refl s).setHl _).setFlags _).advance 2, ⟨rfl, rfl⟩,
    rfl, rfl⟩
  rw [State.hl_advance, State.hl_setFlags, State.hl_setHl]
  exact toNat_add_sext16 s.sp e8

/-- The effect of R243. -/
theorem exists_addToSp (e8 : Byte) (s : State) :
    ∃ t, addToSp e8 s = .next t ∧ (t.sp.toNat : Int) = ((s.sp.toNat : Int) + e8.toInt) % 0x10000 ∧
      flagsAre False False (s.sp.toNat % 16 + e8.toNat % 16 > 0xF) (s.sp.toNat % 256 + e8.toNat > 0xFF) t ∧
      frame [] [] s t ∧ controlKept s t ∧ t.pc = s.pc + 2 :=
  ⟨_, rfl, toNat_add_sext16 s.sp e8, flagsAre_spDisplacement _ s.sp e8 2,
    (((frame_refl s).setSp _).setFlags _).advance 2, ⟨rfl, rfl⟩, rfl⟩

/-! ## The push of a pair -/

theorem pushFaults_of_exec {i : Instr} {s : State} {v : Word} {k : State → Result}
    (h : exec i s = (s.push16 v).andThen k) : pushFaults i s := by
  refine ⟨fun hlt => ?_, fun hone => ?_⟩
  · rw [h, State.push16_of_lt hlt, Result.andThen_fault]
  · rw [h, State.push16_of_eq_one hone, Result.andThen_fault]

theorem pushPair_of_canPush {s : State} (h : canPush s) (p : StackPair) :
    pushPair p s = .next ((s.afterPush (s.stackPair p)).advance 1) := by
  rw [pushPair, State.push16_of_canPush h, Result.andThen_next, finish_eq]

theorem codedAs_push (p : StackPair) : codedAs (Forms.push p) [0xC5 + 16 * stackIndex p] := by
  cases p <;> exact codedAs_of_plain rfl (by decide)

theorem costs_push (p : StackPair) : costs (Forms.push p) 1 (.fixed 16) := by
  cases p <;> exact ⟨rfl, rfl⟩

/-- R22: the low nibble of `F` is 0 in a legal state. -/
theorem State.toNat_f_lowNibble_of_legal {s : State} (h : s.legal = true) : s.f.toNat % 16 = 0 := by
  rw [State.legal, Bool.and_eq_true, State.flagsLegal, beq_iff_eq] at h
  obtain ⟨hf, -⟩ := h
  calc s.f.toNat % 16 = s.f.toNat &&& 0x0F := (Nat.and_two_pow_sub_one_eq_mod s.f.toNat 4).symm
    _ = (s.f &&& 0x0F).toNat := rfl
    _ = 0 := congrArg BitVec.toNat hf

/-- R176: `PUSH AF` leaves `A` in the high byte and `F` in the low byte. -/
theorem read8_afterPush_af {s : State} (h : canPush s) (hlegal : s.legal = true) :
    (s.afterPush s.af).read8 (s.sp - 1) = s.a ∧ (s.afterPush s.af).read8 (s.sp - 2) = s.f := by
  rw [State.read8_afterPush_high h hlegal, State.read8_afterPush_low h hlegal]
  exact ⟨hiByte_wordOf s.a s.f, loByte_wordOf s.a s.f⟩

/-! ## The pop of a pair -/

theorem codedAs_pop (p : StackPair) : codedAs (Forms.pop p) [0xC1 + 16 * stackIndex p] := by
  cases p <;> exact codedAs_of_plain rfl (by decide)

theorem costs_pop (p : StackPair) : costs (Forms.pop p) 1 (.fixed 12) := by
  cases p <;> exact ⟨rfl, rfl⟩

theorem popPair_of_top {s : State} (h : s.sp = 0xFFFF) (p : StackPair) : popPair p s = .fault .fatalBoundsError :=
  State.withPop16_of_top h _

theorem popPair_of_ne {s : State} (h : s.sp ≠ 0xFFFF) (p : StackPair) :
    popPair p s = .next (((s.setSp (s.sp + 2)).setStackPair p (wordOf (s.read8 (s.sp + 1)) (s.read8 s.sp))).advance 1) :=
  State.withPop16_of_ne h _

theorem toNat_and_highNibble (v : Byte) : (v &&& 0xF0).toNat = v.toNat / 16 * 16 := by
  decide +revert

/-- R178: `F` is the low byte with its low nibble cleared. -/
theorem toNat_setAf_wordOf_f (s : State) (hi lo : Byte) : (s.setAf (wordOf hi lo)).f.toNat = lo.toNat / 16 * 16 := by
  rw [State.setAf_f, loByte_wordOf, toNat_and_highNibble]

/-- R178: the flags are bits 7 to 4 of the low byte. -/
theorem flagsAre_setAf (s : State) (hi lo : Byte) (n : Word) :
    flagsAre (lo.getLsbD 7 = true) (lo.getLsbD 6 = true) (lo.getLsbD 5 = true) (lo.getLsbD 4 = true)
      ((s.setAf (wordOf hi lo)).advance n) := by
  simp [flagsAre, State.fZ, State.fN, State.fH, State.fC, State.flagsLegal]

end Sys2Proof.Machine
end

section
/-! PROOFS. 41_load16_stack.md: the statements, each from what its shared operations do. -/

namespace Sys2Proof.Cert

open Machine

/-- Settles O18: each clause is one case of `push16` or of `withPop16`. -/
theorem stackPrimitives : Obligations.StackPrimitives := by
  intro s v
  refine ⟨fun hlt => State.push16_of_lt hlt v, fun hone => State.push16_of_eq_one hone v, fun hpush hlegal => ?_,
    fun k => ⟨fun htop => State.withPop16_of_top htop k, fun hne => ?_⟩⟩
  · obtain ⟨-, hmem, -⟩ := frame_afterPush hpush v
    exact ⟨_, State.push16_of_canPush hpush v, pushed_afterPush hpush hlegal v, hmem, rfl,
      State.withPop16_afterPush hpush hlegal v⟩
  · exact ⟨_, toNat_wordOf _ _, State.withPop16_of_ne hne k⟩

/-- Settles O30: both instructions are one `loadPair`, and the word operand of the first can fault in the fetch. -/
theorem loadPair : Obligations.LoadPair := by
  refine ⟨fun p n16 s => ⟨?_, costs_ldPairImm p n16, ?_⟩, fun p => ?_, fun s => ?_⟩
  · exact codedAs_of_oneWord (baseDescriptor_ldPairImm p) (ldPairImm_opcode_ne_extendedByte p) n16
  · rw [exec_ldPairImm]
    exact exists_loadPair p n16 3 s
  · exact wordFetchFaults_of_oneWord (baseDescriptor_ldPairImm p) (ldPairImm_opcode_ne_extendedByte p)
  · obtain ⟨t, hexec, hsp, hframe, hf, hctl, -, hpc⟩ := exists_loadPair .sp s.hl 1 s
    exact ⟨codedAs_of_plain rfl (by decide), ⟨rfl, rfl⟩, t, hexec, hsp, hframe, hf, hctl, hpc⟩

/-- Settles O31: the instruction is one `storeWord`, and its word operand can fault in the fetch. -/
theorem storeSp : Obligations.StoreSp := by
  refine ⟨fun a16 s => ⟨codedAs_of_oneWord (f := .ldAtA16Sp) rfl (by decide) a16, ⟨rfl, rfl⟩, ?_, ?_, ?_⟩,
    wordFetchFaults_of_oneWord (f := .ldAtA16Sp) rfl (by decide)⟩
  · exact fun hge hne hlegal => exists_storeWord hge hne s.sp 3 hlegal
  · rintro rfl
    exact storeWord_top s.sp 3 s
  · exact fun hlt => storeWord_of_lt hlt s.sp 3 s

/-- Settles O32: both instructions write the same sum and the same flags. -/
theorem spDisplacement : Obligations.SpDisplacement := by
  intro e8 s
  refine ⟨⟨?_, ⟨rfl, rfl⟩, exists_loadHlFromSp e8 s⟩, ⟨?_, ⟨rfl, rfl⟩, exists_addToSp e8 s⟩⟩
  · exact codedAs_of_oneByte (f := .ldHlSpE8) rfl (by decide) e8
  · exact codedAs_of_oneByte (f := .addSpE8) rfl (by decide) e8

/-- Settles O33: `PUSH` is `push16` of the pair and then the default advance. -/
theorem pushPair : Obligations.PushPair := by
  intro p s
  refine ⟨codedAs_push p, costs_push p, fun hpush hlegal => ?_, pushFaults_of_exec (exec_push p s)⟩
  refine ⟨_, (exec_push p s).trans (pushPair_of_canPush hpush p), pushed_afterPush hpush hlegal _,
    (frame_afterPush hpush _).advance 1, rfl, ⟨rfl, rfl⟩, rfl, ?_⟩
  rintro rfl
  obtain ⟨hhigh, hlow⟩ := read8_afterPush_af hpush hlegal
  exact ⟨hhigh, hlow, (congrArg (·.toNat % 16) hlow).trans (State.toNat_f_lowNibble_of_legal hlegal)⟩

/-- Settles O34: `POP` moves `SP`, writes the word of the two stack bytes to the pair, and then makes the default advance. -/
theorem popPair : Obligations.PopPair := by
  intro p s
  refine ⟨codedAs_pop p, costs_pop p, fun hne => ?_, fun htop => (exec_pop p s).trans (popPair_of_top htop p)⟩
  have hframe := (frame_refl s).setSp (s.sp + 2)
  refine ⟨_, (exec_pop p s).trans (popPair_of_ne hne p), by simp, by simp [controlKept], by simp, ?_, ?_, ?_, ?_⟩
  · rintro rfl
    exact ⟨hiByte_wordOf _ _, loByte_wordOf _ _, (hframe.setPair .bc _).advance 1, rfl⟩
  · rintro rfl
    exact ⟨hiByte_wordOf _ _, loByte_wordOf _ _, (hframe.setPair .de _).advance 1, rfl⟩
  · rintro rfl
    exact ⟨hiByte_wordOf _ _, loByte_wordOf _ _, (hframe.setPair .hl _).advance 1, rfl⟩
  · rintro rfl
    exact ⟨hiByte_wordOf _ _, toNat_setAf_wordOf_f (s.setSp (s.sp + 2)) _ _, (hframe.setAf _).advance 1,
      flagsAre_setAf _ _ _ 1⟩

end Sys2Proof.Cert
end

section
/-! PROOFS. 10_state.md R22, R23: the flags in the words of the statements, and what writing `A` with all
four flags leaves unchanged. -/

namespace Sys2Proof.Machine

open Cert

/-! ## The four flags -/

/-- The four flags, as bits, are these: `flagsAre` of a set of flags that is not written yet. -/
def FlagSet.Are (z n h c : Prop) (g : FlagSet) : Prop :=
  (g.z = true ↔ z) ∧ (g.n = true ↔ n) ∧ (g.h = true ↔ h) ∧ (g.c = true ↔ c)

theorem flag_cleared : false = true ↔ False := iff_of_false Bool.false_ne_true not_false

theorem flag_raised : true = true ↔ True := iff_of_true rfl trivial

theorem FlagSet.Are.flagsAre_setFlags {z n h c : Prop} {g : FlagSet} (hg : g.Are z n h c) (s : State) (len : Word) :
    flagsAre z n h c ((s.setFlags g).advance len) := by
  have hlegal : ((s.setFlags g).advance len).flagsLegal = true := by simp [State.flagsLegal]
  obtain ⟨hz, hn, hh, hc⟩ := hg
  refine ⟨?_, ?_, ?_, ?_, hlegal⟩ <;> simpa

/-! ## Writing `A` and the flags -/

theorem FlagSet.Are.flagsAre_setResult {z n h c : Prop} {r : AluResult} (hr : r.flags.Are z n h c) (s : State) (len : Word) :
    flagsAre z n h c ((s.setResult r).advance len) :=
  hr.flagsAre_setFlags (s.setReg .a r.value) len

theorem frame_setResult (s : State) (r : AluResult) (len : Word) : frame [.a] [] s ((s.setResult r).advance len) :=
  ((frame_setReg s .a r.value).setFlags r.flags).advance len

theorem plainEnd_setResult (s : State) (r : AluResult) (len : Word) : plainEnd len s ((s.setResult r).advance len) :=
  ⟨⟨rfl, rfl⟩, rfl, rfl⟩

end Sys2Proof.Machine
end

section
/-! PROOFS. 42_alu8.md section 1: the 8-bit functions in numbers. -/

namespace Sys2Proof.Machine

/-! ## Results -/

theorem toNat_sub_int (a x : Byte) : ((a - x).toNat : Int) = ((a.toNat : Int) - x.toNat) % 256 := by
  rw [BitVec.toNat_sub]
  omega

theorem toNat_sub_one (v : Byte) : (v - 1).toNat = (v.toNat + 255) % 256 := by
  bv_omega

theorem toNat_xor_0xFF (a : Byte) : (a ^^^ 0xFF).toNat = 255 - a.toNat := by
  have hnot : a ^^^ 0xFF = ~~~a := BitVec.xor_allOnes
  rw [hnot, BitVec.toNat_not]

theorem add_one_eq_zero_iff (v : Byte) : v + 1 = 0 ↔ v.toNat = 0xFF := by
  bv_omega

theorem sub_one_eq_zero_iff (v : Byte) : v - 1 = 0 ↔ v.toNat = 1 := by
  bv_omega

/-! ## Flags -/

theorem add8_flags (a x : Byte) :
    (add8 a x).flags.Are (a + x = 0) False (a.toNat % 16 + x.toNat % 16 > 0xF) (a.toNat + x.toNat > 0xFF) :=
  ⟨beq_iff_eq, flag_cleared, decide_eq_true_iff, decide_eq_true_iff⟩

theorem adc8_flags (a x : Byte) (cin : Bool) :
    (adc8 a x cin).flags.Are ((adc8 a x cin).value = 0) False (a.toNat % 16 + (x.toNat + cin.toNat) % 16 > 0xF)
      (a.toNat + (x.toNat + cin.toNat) % 256 > 0xFF) :=
  ⟨beq_iff_eq, flag_cleared, decide_eq_true_iff, decide_eq_true_iff⟩

theorem sub8_flags (a x : Byte) :
    (sub8 a x).flags.Are (a - x = 0) True (a.toNat % 16 < x.toNat % 16) (a.toNat < x.toNat) :=
  ⟨beq_iff_eq, flag_raised, decide_eq_true_iff, decide_eq_true_iff⟩

theorem and8_flags (a x : Byte) : (and8 a x).flags.Are (a &&& x = 0) False True False :=
  ⟨beq_iff_eq, flag_cleared, flag_raised, flag_cleared⟩

theorem xor8_flags (a x : Byte) : (xor8 a x).flags.Are (a ^^^ x = 0) False False False :=
  ⟨beq_iff_eq, flag_cleared, flag_cleared, flag_cleared⟩

theorem or8_flags (a x : Byte) : (or8 a x).flags.Are (a ||| x = 0) False False False :=
  ⟨beq_iff_eq, flag_cleared, flag_cleared, flag_cleared⟩

/-- R197: the difference is zero just when the operands are equal. -/
theorem cp8_flags (a x : Byte) : (cp8 a x).Are (a = x) True (a.toNat % 16 < x.toNat % 16) (a.toNat < x.toNat) := by
  obtain ⟨hz, hn, hh, hc⟩ := sub8_flags a x
  exact ⟨hz.trans sub_eq_zero, hn, hh, hc⟩

theorem inc8_flags (v : Byte) (cold : Bool) :
    (inc8 v cold).flags.Are (v.toNat = 0xFF) False (v.toNat % 16 + 1 > 0xF) (cold = true) :=
  ⟨beq_iff_eq.trans (add_one_eq_zero_iff v), flag_cleared, decide_eq_true_iff, Iff.rfl⟩

theorem dec8_flags (v : Byte) (cold : Bool) :
    (dec8 v cold).flags.Are (v.toNat = 1) True (v.toNat % 16 < 1) (cold = true) :=
  ⟨beq_iff_eq.trans (sub_one_eq_zero_iff v), flag_raised, decide_eq_true_iff, Iff.rfl⟩

/-! ## The decimal adjustment (R228) -/

theorem daaLow_iff (a : Byte) (g : FlagSet) : daaLow a g = true ↔ g.h = true ∨ (g.n = false ∧ a.toNat % 16 > 9) := by
  simp [daaLow]

theorem daaHigh_iff (a : Byte) (g : FlagSet) : daaHigh a g = true ↔ g.c = true ∨ (g.n = false ∧ a.toNat > 0x99) := by
  simp [daaHigh]

/-- The two corrections share no bit, so their union is their sum. -/
theorem toNat_daaAdjust (a : Byte) (g : FlagSet) :
    (daaAdjust a g).toNat = (if daaLow a g then 0x06 else 0x00) + (if daaHigh a g then 0x60 else 0x00) := by
  unfold daaAdjust
  cases daaLow a g <;> cases daaHigh a g <;> rfl

theorem toNat_daaValue_of_add {g : FlagSet} (hn : g.n = false) (a : Byte) :
    (daaValue a g).toNat = (a.toNat + (daaAdjust a g).toNat) % 256 := by
  rw [daaValue, hn]
  exact BitVec.toNat_add a _

theorem toNat_daaValue_of_sub {g : FlagSet} (hn : g.n = true) (a : Byte) :
    ((daaValue a g).toNat : Int) = ((a.toNat : Int) - (daaAdjust a g).toNat) % 256 := by
  rw [daaValue, hn]
  exact toNat_sub_int a _

theorem daa8_flags (a : Byte) (g : FlagSet) :
    (daa8 a g).flags.Are (daaValue a g = 0) (g.n = true) False (daaHigh a g = true) :=
  ⟨beq_iff_eq, Iff.rfl, flag_cleared, Iff.rfl⟩

end Sys2Proof.Machine
end

section
/-! PROOFS. 30_encoding.md R95: writing the operand `r8[i]`, in the words of the statements. -/

namespace Sys2Proof.Machine

open Cert

/-- The state after a write of the operand that does not fault (R95). -/
def State.afterOperand (s : State) (o : Operand8) (v : Byte) : State :=
  match o with
  | .reg r => s.setReg r v
  | .atHl => { s with mem := s.mem.write s.hl.toNat v }

theorem State.setOperand_of_writable {s : State} {o : Operand8} (h : writable s o) (v : Byte) :
    s.setOperand o v = .next (s.afterOperand o v) := by
  cases o with
  | reg r => rfl
  | atHl => exact State.write8_of_ge (h rfl)

theorem State.setOperand_atHl_of_lt {s : State} (h : s.hl.toNat < 0x8000) (v : Byte) :
    s.setOperand .atHl v = .fault .fatalWriteProtectionError :=
  State.write8_of_lt h

theorem operandAfter_afterOperand {s : State} (hlegal : s.legal = true) (o : Operand8) (v : Byte) :
    operandAfter s (s.afterOperand o v) o = v := by
  cases o with
  | reg r => exact (s.reg_setReg r r v).trans (if_pos rfl)
  | atHl => exact State.read8_write_self hlegal s.hl v

theorem operandAfter_advance (s t : State) (len : Word) (o : Operand8) :
    operandAfter s (t.advance len) o = operandAfter s t o := by
  cases o with
  | reg r => exact t.reg_advance len r
  | atHl => rfl

theorem operandAfter_setFlags (s t : State) (g : FlagSet) (o : Operand8) :
    operandAfter s (t.setFlags g) o = operandAfter s t o := by
  cases o with
  | reg r => exact t.reg_setFlags g r
  | atHl => rfl

theorem frame_afterOperand (s : State) (o : Operand8) (v : Byte) :
    frame (writtenRegs o) (writtenBytes s o) s (s.afterOperand o v) := by
  cases o with
  | reg r => exact frame_setReg s r v
  | atHl => exact frame_write s s.hl v

theorem plainEnd_afterOperand (s : State) (o : Operand8) (v : Byte) (len : Word) :
    plainEnd len s ((s.afterOperand o v).advance len) := by
  cases o with
  | reg r => simp [State.afterOperand, plainEnd, controlKept]
  | atHl => exact ⟨⟨rfl, rfl⟩, rfl, rfl⟩

end Sys2Proof.Machine
end

section
/-! PROOFS. 42_alu8.md section 2: the shared operations of the 8-bit instructions, and their encodings. -/

namespace Sys2Proof.Machine

open Cert

/-! ## Arithmetic and logic on `A` -/

theorem baseDescriptor_alu (op : AluOp) (o : Operand8) :
    baseDescriptor (0x80 + 8 * aluIndex op + operandIndex o) = .plain (Forms.alu op o) := by
  rcases o with (_ | _ | _ | _ | _ | _ | _) | _ <;> cases op <;> rfl

theorem alu_opcode_ne_extendedByte (op : AluOp) (o : Operand8) : 0x80 + 8 * aluIndex op + operandIndex o ≠ 0xCB := by
  rcases o with (_ | _ | _ | _ | _ | _ | _) | _ <;> cases op <;> decide

theorem costs_alu (op : AluOp) (o : Operand8) : costs (Forms.alu op o) 1 (operandCost o 4 8) := by
  rcases o with (_ | _ | _ | _ | _ | _ | _) | _ <;> cases op <;> exact ⟨rfl, rfl⟩

theorem codedAs_aluImm (op : AluOp) (n8 : Byte) : codedAs (Forms.aluImm op n8) [0xC6 + 8 * aluIndex op, n8] := by
  cases op <;> exact codedAs_of_oneByte rfl (by decide) n8

theorem costs_aluImm (op : AluOp) (n8 : Byte) : costs (Forms.aluImm op n8) 2 (.fixed 8) := by
  cases op <;> exact ⟨rfl, rfl⟩

theorem aluCoded_of_op (op : AluOp) : aluCoded op :=
  ⟨fun o => ⟨codedAs_of_plain (baseDescriptor_alu op o) (alu_opcode_ne_extendedByte op o), costs_alu op o⟩,
    fun n8 => ⟨codedAs_aluImm op n8, costs_aluImm op n8⟩⟩

theorem plainEnd_aluResult (s : State) (op : AluOp) (x : Byte) (len : Word) :
    plainEnd len s ((s.aluResult op x).advance len) := by
  cases op <;> exact ⟨⟨rfl, rfl⟩, rfl, rfl⟩

/-- Every form of an ALU operation is `aluResult` and then the default advance, so its effect is shown there once. -/
theorem aluDoes_of_aluResult {op : AluOp} {effect : Byte → State → State → Prop}
    (h : ∀ (x : Byte) (s : State) (len : Word), effect x s ((s.aluResult op x).advance len)) : aluDoes op effect :=
  fun s => ⟨fun o => ⟨_, exec_alu op o s, h _ s 1, plainEnd_aluResult s op _ 1⟩,
    fun n8 => ⟨_, exec_aluImm op n8 s, h n8 s 2, plainEnd_aluResult s op n8 2⟩⟩

/-! ## INC and DEC of an operand -/

theorem codedAs_inc (o : Operand8) : codedAs (Forms.inc o) [0x04 + 8 * operandIndex o] := by
  rcases o with (_ | _ | _ | _ | _ | _ | _) | _ <;> exact codedAs_of_plain rfl (by decide)

theorem costs_inc (o : Operand8) : costs (Forms.inc o) 1 (operandCost o 4 12) := by
  rcases o with (_ | _ | _ | _ | _ | _ | _) | _ <;> exact ⟨rfl, rfl⟩

theorem codedAs_dec (o : Operand8) : codedAs (Forms.dec o) [0x05 + 8 * operandIndex o] := by
  rcases o with (_ | _ | _ | _ | _ | _ | _) | _ <;> exact codedAs_of_plain rfl (by decide)

theorem costs_dec (o : Operand8) : costs (Forms.dec o) 1 (operandCost o 4 12) := by
  rcases o with (_ | _ | _ | _ | _ | _ | _) | _ <;> exact ⟨rfl, rfl⟩

/-- The common effect of R224 to R227, `f` being `inc8` or `dec8`. -/
theorem exists_stepOperand (f : Byte → Bool → AluResult) {o : Operand8} {s : State} {z n h c : Prop}
    (hflags : (f (s.operand o) s.fC).flags.Are z n h c) (hwritable : writable s o) (hlegal : s.legal = true) :
    ∃ t, stepOperand f o s = .next t ∧ operandAfter s t o = (f (s.operand o) s.fC).value ∧ flagsAre z n h c t ∧
      frame (writtenRegs o) (writtenBytes s o) s t ∧ plainEnd 1 s t := by
  have hnext : stepOperand f o s =
      .next (((s.afterOperand o (f (s.operand o) s.fC).value).setFlags (f (s.operand o) s.fC).flags).advance 1) := by
    rw [stepOperand, State.setOperand_of_writable hwritable, Result.andThen_next, finish_eq]
  refine ⟨_, hnext, ?_, hflags.flagsAre_setFlags _ 1, ((frame_afterOperand s o _).setFlags _).advance 1,
    plainEnd_afterOperand s o _ 1⟩
  rw [operandAfter_advance, operandAfter_setFlags, operandAfter_afterOperand hlegal]

theorem stepOperand_atHl_of_lt (f : Byte → Bool → AluResult) {s : State} (hlt : s.hl.toNat < 0x8000) :
    stepOperand f .atHl s = .fault .fatalWriteProtectionError := by
  rw [stepOperand, State.setOperand_atHl_of_lt hlt, Result.andThen_fault]

/-! ## The instructions without an operand -/

/-- The effect of R229. -/
theorem exists_complementA (s : State) :
    ∃ t, complementA s = .next t ∧ t.a.toNat = 255 - s.a.toNat ∧ flagsAre (s.fZ = true) True True (s.fC = true) t ∧
      frame [.a] [] s t ∧ plainEnd 1 s t :=
  ⟨_, rfl, toNat_xor_0xFF s.a, FlagSet.Are.flagsAre_setFlags ⟨Iff.rfl, flag_raised, flag_raised, Iff.rfl⟩ _ 1,
    ((frame_setReg s .a _).setFlags _).advance 1, ⟨rfl, rfl⟩, rfl, rfl⟩

/-- The common effect of R230 and R231. -/
theorem exists_writeCarry {c : Bool} {p : Prop} (hc : c = true ↔ p) (s : State) :
    ∃ t, writeCarry c s = .next t ∧ flagsAre (s.fZ = true) False False p t ∧ frame [] [] s t ∧ plainEnd 1 s t :=
  ⟨_, rfl, FlagSet.Are.flagsAre_setFlags ⟨Iff.rfl, flag_cleared, flag_cleared, hc⟩ s 1,
    ((frame_refl s).setFlags _).advance 1, ⟨rfl, rfl⟩, rfl, rfl⟩

end Sys2Proof.Machine
end

section
/-! PROOFS. 42_alu8.md: the statements, each from what its shared operation does. -/

namespace Sys2Proof.Cert

open Machine

/-- Settles O35: every form is `add8` of `A` and the operand. -/
theorem addA : Obligations.AddA :=
  ⟨aluCoded_of_op .add, aluDoes_of_aluResult fun x s len =>
    ⟨BitVec.toNat_add s.a x, (add8_flags s.a x).flagsAre_setResult s len, frame_setResult s _ len⟩⟩

/-- Settles O36: every form is `adc8` of `A`, the operand and the old carry. -/
theorem adcA : Obligations.AdcA :=
  ⟨aluCoded_of_op .adc, aluDoes_of_aluResult fun x s len =>
    ⟨BitVec.toNat_ofNat _ 8, (adc8_flags s.a x s.fC).flagsAre_setResult s len, frame_setResult s _ len⟩⟩

/-- Settles O37: every form is `sub8` of `A` and the operand. -/
theorem subA : Obligations.SubA :=
  ⟨aluCoded_of_op .sub, aluDoes_of_aluResult fun x s len =>
    ⟨toNat_sub_int s.a x, (sub8_flags s.a x).flagsAre_setResult s len, frame_setResult s _ len⟩⟩

/-- Settles O39: every form is `and8`, `xor8` or `or8` of `A` and the operand. -/
theorem logicA : Obligations.LogicA := by
  refine ⟨⟨aluCoded_of_op .and, aluDoes_of_aluResult fun x s len => ⟨fun _ => BitVec.getLsbD_and, ?_⟩⟩,
    ⟨aluCoded_of_op .xor, aluDoes_of_aluResult fun x s len => ⟨fun _ => BitVec.getLsbD_xor, ?_⟩⟩,
    ⟨aluCoded_of_op .or, aluDoes_of_aluResult fun x s len => ⟨fun _ => BitVec.getLsbD_or, ?_⟩⟩⟩
  · exact ⟨(and8_flags s.a x).flagsAre_setResult s len, frame_setResult s _ len⟩
  · exact ⟨(xor8_flags s.a x).flagsAre_setResult s len, frame_setResult s _ len⟩
  · exact ⟨(or8_flags s.a x).flagsAre_setResult s len, frame_setResult s _ len⟩

/-- Settles O40: every form writes the flags `cp8` and nothing else. -/
theorem compareA : Obligations.CompareA :=
  ⟨aluCoded_of_op .cp, aluDoes_of_aluResult fun x s len =>
    ⟨(cp8_flags s.a x).flagsAre_setFlags s len, ((frame_refl s).setFlags _).advance len⟩⟩

/-- Settles O41: both instructions are one `stepOperand`, which faults exactly where the operand cannot be written. -/
theorem incDecByte : Obligations.IncDecByte := by
  refine ⟨fun o => ⟨codedAs_inc o, costs_inc o, codedAs_dec o, costs_dec o⟩, fun o s => ?_⟩
  rw [exec_inc, exec_dec]
  refine ⟨fun hwritable hlegal => ⟨?_, ?_⟩, ?_⟩
  · obtain ⟨t, hnext, hvalue, hrest⟩ := exists_stepOperand inc8 (inc8_flags (s.operand o) s.fC) hwritable hlegal
    exact ⟨t, hnext, hvalue ▸ BitVec.toNat_add _ 1, hrest⟩
  · obtain ⟨t, hnext, hvalue, hrest⟩ := exists_stepOperand dec8 (dec8_flags (s.operand o) s.fC) hwritable hlegal
    exact ⟨t, hnext, hvalue ▸ toNat_sub_one _, hrest⟩
  · rintro rfl hlt
    exact ⟨stepOperand_atHl_of_lt inc8 hlt, stepOperand_atHl_of_lt dec8 hlt⟩

/-- Settles O42: the corrections that are due are those of `daaLow` and `daaHigh`, and `adj` is their sum. -/
theorem decimalAdjust : Obligations.DecimalAdjust := by
  refine ⟨codedAs_of_plain rfl (by decide), ⟨rfl, rfl⟩, fun s low high adj hlow hhigh ⟨hboth, hl, hh, hnone⟩ => ?_⟩
  obtain rfl : (daaLow s.a s.flags = true) = low := propext ((daaLow_iff s.a s.flags).trans hlow.symm)
  obtain rfl : (daaHigh s.a s.flags = true) = high := propext ((daaHigh_iff s.a s.flags).trans hhigh.symm)
  have hadj : (daaAdjust s.a s.flags).toNat = adj := by
    rw [toNat_daaAdjust]
    split_ifs with hlo hhi hhi
    · exact (hboth hlo hhi).symm
    · exact (hl hlo hhi).symm
    · exact (hh hlo hhi).symm
    · exact (hnone hlo hhi).symm
  refine ⟨_, rfl, fun hn => ?_, fun hn => ?_, (daa8_flags s.a s.flags).flagsAre_setResult s 1, frame_setResult s _ 1,
    plainEnd_setResult s _ 1⟩
  · exact hadj ▸ toNat_daaValue_of_add hn s.a
  · exact hadj ▸ toNat_daaValue_of_sub hn s.a

/-- Settles O44: `CPL` is `complementA`, and the other two are one `writeCarry`. -/
theorem complementAndCarry : Obligations.ComplementAndCarry := by
  refine ⟨⟨?_, ⟨rfl, rfl⟩, ?_, ⟨rfl, rfl⟩, ?_, ⟨rfl, rfl⟩⟩, fun s => ⟨exists_complementA s, ?_, ?_⟩⟩
  · exact codedAs_of_plain rfl (by decide)
  · exact codedAs_of_plain rfl (by decide)
  · exact codedAs_of_plain rfl (by decide)
  · exact exists_writeCarry flag_raised s
  · exact exists_writeCarry (iff_of_eq (Bool.not_eq_true' s.fC)) s

end Sys2Proof.Cert
end

section
/-! PROOFS. 43_alu16.md: the shared operations of the 16-bit arithmetic, and their encodings. -/

namespace Sys2Proof.Machine

open Cert

/-! ## ADD HL,rr -/

theorem codedAs_addHl (p : Reg16) : codedAs (Forms.addHl p) [0x09 + 16 * pairIndex p] := by
  cases p <;> exact codedAs_of_plain rfl (by decide)

theorem costs_addHl (p : Reg16) : costs (Forms.addHl p) 1 (.fixed 8) := by
  cases p <;> exact ⟨rfl, rfl⟩

theorem addHlFlags_are (hl v : Word) (oldZ : Bool) :
    (addHlFlags hl v oldZ).Are (oldZ = true) False (hl.toNat % 0x1000 + v.toNat % 0x1000 > 0x0FFF)
      (hl.toNat + v.toNat > 0xFFFF) :=
  ⟨Iff.rfl, flag_cleared, decide_eq_true_iff, decide_eq_true_iff⟩

/-- The effect of R240. -/
theorem exists_addToHl (v : Word) (s : State) :
    ∃ t, addToHl v s = .next t ∧ t.hl = s.hl + v ∧
      flagsAre (s.fZ = true) False (s.hl.toNat % 0x1000 + v.toNat % 0x1000 > 0x0FFF) (s.hl.toNat + v.toNat > 0xFFFF) t ∧
      frame [.h, .l] [] s t ∧ plainEnd 1 s t := by
  refine ⟨_, rfl, ?_, (addHlFlags_are s.hl v s.fZ).flagsAre_setFlags _ 1,
    (((frame_refl s).setHl _).setFlags _).advance 1, ⟨rfl, rfl⟩, rfl, rfl⟩
  rw [State.hl_advance, State.hl_setFlags, State.hl_setHl]

/-! ## INC rr and DEC rr -/

theorem codedAs_incPair (p : Reg16) : codedAs (Forms.incPair p) [0x03 + 16 * pairIndex p] := by
  cases p <;> exact codedAs_of_plain rfl (by decide)

theorem costs_incPair (p : Reg16) : costs (Forms.incPair p) 1 (.fixed 8) := by
  cases p <;> exact ⟨rfl, rfl⟩

theorem codedAs_decPair (p : Reg16) : codedAs (Forms.decPair p) [0x0B + 16 * pairIndex p] := by
  cases p <;> exact codedAs_of_plain rfl (by decide)

theorem costs_decPair (p : Reg16) : costs (Forms.decPair p) 1 (.fixed 8) := by
  cases p <;> exact ⟨rfl, rfl⟩

/-- Adjusting a pair is loading it with the adjusted value, so it touches what a load of the pair touches. -/
theorem adjustPair_eq_loadPair (p : Reg16) (delta : Word) (s : State) :
    adjustPair p delta s = loadPair p (s.pair p + delta) 1 s := rfl

/-- The common effect of R241 and R242. -/
theorem exists_adjustPair (p : Reg16) (delta : Word) (s : State) :
    ∃ t, adjustPair p delta s = .next t ∧ (t.pair p).toNat = ((s.pair p).toNat + delta.toNat) % 0x10000 ∧
      frame (pairRegs p) [] s t ∧ (p ≠ .sp → t.sp = s.sp) ∧ t.f = s.f ∧ controlKept s t ∧ t.pc = s.pc + 1 := by
  obtain ⟨t, hnext, hpair, hframe, hf, hctl, hsp, hpc⟩ := exists_loadPair p (s.pair p + delta) 1 s
  refine ⟨t, (adjustPair_eq_loadPair p delta s).trans hnext, ?_, hframe, hsp, hf, hctl, hpc⟩
  rw [hpair, BitVec.toNat_add]

end Sys2Proof.Machine
end

section
/-! PROOFS. 43_alu16.md: the statements, each from what its shared operation does. -/

namespace Sys2Proof.Cert

open Machine

/-- Settles O45: every operand goes through one `addToHl`, whose sum and carries are those of the statement. -/
theorem addHl : Obligations.AddHl := by
  intro p s
  obtain ⟨t, hnext, hhl, hrest⟩ := exists_addToHl (s.pair p) s
  exact ⟨codedAs_addHl p, costs_addHl p, t, (exec_addHl p s).trans hnext, hhl ▸ BitVec.toNat_add s.hl (s.pair p), hrest⟩

/-- Settles O46: both instructions are one `adjustPair`, `DEC` adding 0xFFFF. -/
theorem incDecPair : Obligations.IncDecPair := by
  intro p s
  rw [exec_incPair, exec_decPair]
  exact ⟨⟨codedAs_incPair p, costs_incPair p, exists_adjustPair p 1 s⟩,
    ⟨codedAs_decPair p, costs_decPair p, exists_adjustPair p (-1) s⟩⟩

end Sys2Proof.Cert
end

section
/-! PROOFS. 44_rotate_shift_bit.md section 3: the rotate and shift functions in numbers. -/

namespace Sys2Proof.Machine

/-- `r` and `c` are the result and the carry out of the operation, from the operand and the old carry as numbers. -/
def rotComputes (op : RotOp) (r c : Nat → Nat → Nat) : Prop :=
  ∀ (v : Byte) (cin : Bool), (rotate8 op v cin).value.toNat = r v.toNat cin.toNat ∧
    (rotate8 op v cin).carry.toNat = c v.toNat cin.toNat

/-! ## Bits that leave and bits that enter -/

/-- Bit 7 of a byte as a number. -/
theorem toNat_getLsbD_seven (v : Byte) : (v.getLsbD 7).toNat = v.toNat / 128 := by
  have h := v.isLt
  calc (v.getLsbD 7).toNat = v.toNat / 2 ^ 7 % 2 := Nat.toNat_testBit v.toNat 7
    _ = v.toNat / 128 := by omega

/-- Bit 0 of a byte as a number. -/
theorem toNat_getLsbD_zero (v : Byte) : (v.getLsbD 0).toNat = v.toNat % 2 := by
  calc (v.getLsbD 0).toNat = v.toNat / 2 ^ 0 % 2 := Nat.toNat_testBit v.toNat 0
    _ = v.toNat % 2 := by omega

theorem toNat_bitByte_zero (c : Bool) : (bitByte c 0).toNat = c.toNat := by
  cases c <;> rfl

theorem toNat_bitByte_seven (c : Bool) : (bitByte c 7).toNat = c.toNat * 128 := by
  cases c <;> rfl

theorem toNat_shiftLeft_one (v : Byte) : (v <<< 1).toNat = v.toNat * 2 % 256 := by
  rw [BitVec.toNat_shiftLeft, Nat.shiftLeft_eq]

theorem toNat_ushiftRight_one (v : Byte) : (v >>> 1).toNat = v.toNat / 2 := by
  rw [BitVec.toNat_ushiftRight, Nat.shiftRight_eq_div_pow]

/-- The union of two bytes that share no bit is their sum. -/
theorem toNat_or_of_disjoint {x y : Byte} (h : x &&& y = 0#8) : (x ||| y).toNat = x.toNat + y.toNat := by
  rw [← BitVec.add_eq_or_of_and_eq_zero x y h, BitVec.toNat_add_of_and_eq_zero h]

/-- A bit that enters at the right of a byte shifted left. -/
theorem toNat_shiftLeft_or_bitByte (v : Byte) (c : Bool) :
    (v <<< 1 ||| bitByte c 0).toNat = v.toNat * 2 % 256 + c.toNat := by
  have hdisjoint : v <<< 1 &&& bitByte c 0 = 0#8 := by
    cases c
    · exact BitVec.and_zero
    · exact (BitVec.and_twoPow (v <<< 1) 0).trans (if_neg (by simp))
  rw [toNat_or_of_disjoint hdisjoint, toNat_shiftLeft_one, toNat_bitByte_zero]

/-- A bit that enters at the left of a byte shifted right. -/
theorem toNat_ushiftRight_or_bitByte (v : Byte) (c : Bool) :
    (v >>> 1 ||| bitByte c 7).toNat = v.toNat / 2 + c.toNat * 128 := by
  have hdisjoint : v >>> 1 &&& bitByte c 7 = 0#8 := by
    cases c
    · exact BitVec.and_zero
    · exact (BitVec.and_twoPow (v >>> 1) 7).trans (if_neg (by simp))
  rw [toNat_or_of_disjoint hdisjoint, toNat_ushiftRight_one, toNat_bitByte_seven]

/-- Bit 7 of a byte in its place, as SRA keeps it (R259). -/
theorem and_0x80_eq_bitByte (v : Byte) : v &&& 0x80 = bitByte (v.getLsbD 7) 7 :=
  BitVec.and_twoPow v 7

/-- The nibbles of a byte exchanged (R260). -/
theorem toNat_swapNibbles (v : Byte) : (v <<< 4 ||| v >>> 4).toNat = v.toNat % 16 * 16 + v.toNat / 16 := by
  have hdisjoint : v <<< 4 &&& v >>> 4 = 0#8 := by
    ext i hi
    have hout (h4 : 4 ≤ i) : v.getLsbD (4 + i) = false := BitVec.getLsbD_of_ge v (4 + i) (by omega)
    simpa using fun h4 _ => hout h4
  rw [toNat_or_of_disjoint hdisjoint, BitVec.toNat_shiftLeft, BitVec.toNat_ushiftRight, Nat.shiftLeft_eq,
    Nat.shiftRight_eq_div_pow]
  omega

/-! ## The eight operations -/

theorem rlc_computes : rotComputes .rlc (fun v _ => v * 2 % 256 + v / 128) (fun v _ => v / 128) := fun v _ =>
  ⟨(toNat_shiftLeft_or_bitByte v _).trans (congrArg _ (toNat_getLsbD_seven v)), toNat_getLsbD_seven v⟩

theorem rrc_computes : rotComputes .rrc (fun v _ => v / 2 + v % 2 * 128) (fun v _ => v % 2) := fun v _ =>
  ⟨(toNat_ushiftRight_or_bitByte v _).trans (congrArg (v.toNat / 2 + · * 128) (toNat_getLsbD_zero v)), toNat_getLsbD_zero v⟩

theorem rl_computes : rotComputes .rl (fun v k => v * 2 % 256 + k) (fun v _ => v / 128) := fun v cin =>
  ⟨toNat_shiftLeft_or_bitByte v cin, toNat_getLsbD_seven v⟩

theorem rr_computes : rotComputes .rr (fun v k => v / 2 + k * 128) (fun v _ => v % 2) := fun v cin =>
  ⟨toNat_ushiftRight_or_bitByte v cin, toNat_getLsbD_zero v⟩

theorem sla_computes : rotComputes .sla (fun v _ => v * 2 % 256) (fun v _ => v / 128) := fun v _ =>
  ⟨toNat_shiftLeft_one v, toNat_getLsbD_seven v⟩

theorem sra_computes : rotComputes .sra (fun v _ => v / 2 + v / 128 * 128) (fun v _ => v % 2) := fun v cin => by
  refine ⟨?_, toNat_getLsbD_zero v⟩
  calc (rotate8 .sra v cin).value.toNat = (v >>> 1 ||| (v &&& 0x80)).toNat := rfl
    _ = (v >>> 1 ||| bitByte (v.getLsbD 7) 7).toNat := by rw [and_0x80_eq_bitByte]
    _ = v.toNat / 2 + v.toNat / 128 * 128 := by rw [toNat_ushiftRight_or_bitByte, toNat_getLsbD_seven]

theorem swap_computes : rotComputes .swap (fun v _ => v % 16 * 16 + v / 16) (fun _ _ => 0) := fun v _ =>
  ⟨toNat_swapNibbles v, rfl⟩

theorem srl_computes : rotComputes .srl (fun v _ => v / 2) (fun v _ => v % 2) := fun v _ =>
  ⟨toNat_ushiftRight_one v, toNat_getLsbD_zero v⟩

/-! ## Flags -/

theorem rotComputes.carry_iff {op : RotOp} {r c : Nat → Nat → Nat} (h : rotComputes op r c) (v : Byte) (cin : Bool) :
    (rotate8 op v cin).carry = true ↔ c v.toNat cin.toNat = 1 := by
  rw [← Bool.toNat_eq_one, (h v cin).2]

theorem rotComputes.value_eq_zero_iff {op : RotOp} {r c : Nat → Nat → Nat} (h : rotComputes op r c) (v : Byte) (cin : Bool) :
    ((rotate8 op v cin).value == 0) = true ↔ r v.toNat cin.toNat = 0 := by
  rw [beq_iff_eq, BitVec.toNat_eq, (h v cin).1]
  rfl

end Sys2Proof.Machine
end

section
/-! PROOFS. 44_rotate_shift_bit.md section 4: single bits. -/

namespace Sys2Proof.Machine

/-- The byte `1 << b` has the one bit `b`. -/
theorem getLsbD_bitByte_true (b : Fin 8) (k : Nat) : (bitByte true b.val).getLsbD k = decide (k = b.val) := by
  calc (bitByte true b.val).getLsbD k = (decide (b.val < 8) && decide (b.val = k)) := BitVec.getLsbD_twoPow b.val k
    _ = decide (k = b.val) := by simp [b.isLt, eq_comm]

theorem getLsbD_clearBit (b : Fin 8) (v : Byte) (k : Nat) :
    (clearBit b v).getLsbD k = if k = b.val then false else v.getLsbD k := by
  rw [clearBit, BitVec.getLsbD_and, BitVec.getLsbD_not, getLsbD_bitByte_true]
  by_cases hk : k = b.val
  · simp [hk]
  · simpa [hk] using fun h => BitVec.lt_of_getLsbD h

theorem getLsbD_raiseBit (b : Fin 8) (v : Byte) (k : Nat) :
    (raiseBit b v).getLsbD k = if k = b.val then true else v.getLsbD k := by
  rw [raiseBit, BitVec.getLsbD_or, getLsbD_bitByte_true]
  by_cases hk : k = b.val <;> simp [hk]

/-- `fZ` is the complement of the tested bit (R278, R279). -/
theorem bitFlags_are (b : Fin 8) (v : Byte) (oldC : Bool) :
    (bitFlags b v oldC).Are (v.toNat / 2 ^ b.val % 2 = 0) False True (oldC = true) := by
  refine ⟨?_, flag_cleared, flag_raised, Iff.rfl⟩
  calc (!v.getLsbD b.val) = true ↔ (v.toNat.testBit b.val).toNat = 0 := by simp [BitVec.getLsbD]
    _ ↔ v.toNat / 2 ^ b.val % 2 = 0 := by rw [Nat.toNat_testBit]

end Sys2Proof.Machine
end

section
/-! PROOFS. 44_rotate_shift_bit.md: the shared operations of the rotates, shifts and bit instructions, and their encodings. -/

namespace Sys2Proof.Machine

open Cert

/-! ## Encodings and costs (R102, R108) -/

/-- The entry of the extended table gives the encoding. -/
theorem codedAs_of_extended {op2 : Byte} {i : Instr} (h : extendedInstr op2 = i) : codedAs i [0xCB, op2] := by
  subst h
  exact ⟨encode_extendedInstr op2, decode_extended op2⟩

theorem extendedInstr_rot (op : RotOp) (o : Operand8) :
    extendedInstr (8 * rotIndex op + operandIndex o) = Forms.rot op o := by
  rcases o with (_ | _ | _ | _ | _ | _ | _) | _ <;> cases op <;> rfl

theorem extendedInstr_bit (b : Fin 8) (o : Operand8) :
    extendedInstr (0x40 + 8 * numIndex b + operandIndex o) = Forms.bit b o := by
  rcases o with (_ | _ | _ | _ | _ | _ | _) | _ <;> fin_cases b <;> rfl

theorem extendedInstr_res (b : Fin 8) (o : Operand8) :
    extendedInstr (0x80 + 8 * numIndex b + operandIndex o) = Forms.res b o := by
  rcases o with (_ | _ | _ | _ | _ | _ | _) | _ <;> fin_cases b <;> rfl

theorem extendedInstr_set (b : Fin 8) (o : Operand8) :
    extendedInstr (0xC0 + 8 * numIndex b + operandIndex o) = Forms.set b o := by
  rcases o with (_ | _ | _ | _ | _ | _ | _) | _ <;> fin_cases b <;> rfl

theorem costs_rot (op : RotOp) (o : Operand8) : costs (Forms.rot op o) 2 (operandCost o 8 16) := by
  rcases o with (_ | _ | _ | _ | _ | _ | _) | _ <;> cases op <;> exact ⟨rfl, rfl⟩

theorem costs_bit (b : Fin 8) (o : Operand8) : costs (Forms.bit b o) 2 (operandCost o 8 12) := by
  rcases o with (_ | _ | _ | _ | _ | _ | _) | _ <;> fin_cases b <;> exact ⟨rfl, rfl⟩

theorem costs_res (b : Fin 8) (o : Operand8) : costs (Forms.res b o) 2 (operandCost o 8 16) := by
  rcases o with (_ | _ | _ | _ | _ | _ | _) | _ <;> fin_cases b <;> exact ⟨rfl, rfl⟩

theorem costs_set (b : Fin 8) (o : Operand8) : costs (Forms.set b o) 2 (operandCost o 8 16) := by
  rcases o with (_ | _ | _ | _ | _ | _ | _) | _ <;> fin_cases b <;> exact ⟨rfl, rfl⟩

theorem rotCoded_of_op (op : RotOp) : rotCoded op :=
  fun o => ⟨codedAs_of_extended (extendedInstr_rot op o), costs_rot op o⟩

/-! ## Rotates and shifts -/

/-- The common effect of R250 to R253. -/
theorem accRotDoes_of_computes {i : Instr} {op : RotOp} {r c : Nat → Nat → Nat} (hexec : ∀ s, exec i s = rotateA op s)
    (h : rotComputes op r c) : accRotDoes i r c := fun s =>
  ⟨_, hexec s, (h s.a s.fC).1,
    FlagSet.Are.flagsAre_setFlags ⟨flag_cleared, flag_cleared, flag_cleared, h.carry_iff s.a s.fC⟩ _ 1,
    ((frame_setReg s .a _).setFlags _).advance 1, ⟨rfl, rfl⟩, rfl, rfl⟩

theorem rotateOperand_atHl_of_lt (op : RotOp) {s : State} (hlt : s.hl.toNat < 0x8000) :
    rotateOperand op .atHl s = .fault .fatalWriteProtectionError := by
  rw [rotateOperand, State.setOperand_atHl_of_lt hlt, Result.andThen_fault]

theorem rotateOperand_of_writable (op : RotOp) {o : Operand8} {s : State} (h : writable s o) :
    rotateOperand op o s = .next (((s.afterOperand o (rotate8 op (s.operand o) s.fC).value).setFlags
      { z := (rotate8 op (s.operand o) s.fC).value == 0
        n := false
        h := false
        c := (rotate8 op (s.operand o) s.fC).carry }).advance 2) := by
  rw [rotateOperand, State.setOperand_of_writable h, Result.andThen_next, finish_eq]

/-- The common effect of R262 to R277. -/
theorem rotDoes_of_computes {op : RotOp} {r c : Nat → Nat → Nat} (h : rotComputes op r c) : rotDoes op r c := by
  intro o s
  rw [exec_rot]
  refine ⟨fun hwritable hlegal => ⟨_, rotateOperand_of_writable op hwritable, ?_, ?_,
    ((frame_afterOperand s o _).setFlags _).advance 2, plainEnd_afterOperand s o _ 2⟩, ?_⟩
  · rw [operandAfter_advance, operandAfter_setFlags, operandAfter_afterOperand hlegal]
    exact (h (s.operand o) s.fC).1
  · exact FlagSet.Are.flagsAre_setFlags
      ⟨h.value_eq_zero_iff _ s.fC, flag_cleared, flag_cleared, h.carry_iff _ s.fC⟩ _ 2
  · rintro rfl hlt
    exact rotateOperand_atHl_of_lt op hlt

/-! ## Single bits -/

/-- The effect of R278 and R279. -/
theorem exists_testBit (b : Fin 8) (o : Operand8) (s : State) :
    ∃ t, testBit b o s = .next t ∧
      flagsAre ((s.operand o).toNat / 2 ^ b.val % 2 = 0) False True (s.fC = true) t ∧ frame [] [] s t ∧ plainEnd 2 s t :=
  ⟨_, rfl, (bitFlags_are b (s.operand o) s.fC).flagsAre_setFlags s 2, ((frame_refl s).setFlags _).advance 2, ⟨rfl, rfl⟩,
    rfl, rfl⟩

theorem State.f_afterOperand (s : State) (o : Operand8) (v : Byte) : (s.afterOperand o v).f = s.f := by
  cases o with
  | reg r => exact s.setReg_f r v
  | atHl => rfl

/-- The common effect of R280 to R283, `f` being `clearBit` or `raiseBit`, in terms of the byte that is written. -/
theorem exists_changeBit (f : Byte → Byte) {o : Operand8} {s : State} (hwritable : writable s o) (hlegal : s.legal = true) :
    ∃ t, changeBit f o s = .next t ∧ operandAfter s t o = f (s.operand o) ∧
      frame (writtenRegs o) (writtenBytes s o) s t ∧ t.f = s.f ∧ plainEnd 2 s t := by
  have hnext : changeBit f o s = .next ((s.afterOperand o (f (s.operand o))).advance 2) := by
    rw [changeBit, State.setOperand_of_writable hwritable, Result.andThen_next, finish_eq]
  refine ⟨_, hnext, ?_, (frame_afterOperand s o _).advance 2, s.f_afterOperand o _, plainEnd_afterOperand s o _ 2⟩
  rw [operandAfter_advance, operandAfter_afterOperand hlegal]

theorem changeBit_atHl_of_lt (f : Byte → Byte) {s : State} (hlt : s.hl.toNat < 0x8000) :
    changeBit f .atHl s = .fault .fatalWriteProtectionError := by
  rw [changeBit, State.setOperand_atHl_of_lt hlt, Result.andThen_fault]

end Sys2Proof.Machine
end

section
/-! PROOFS. 44_rotate_shift_bit.md: the statements, each from what its shared operation does. -/

namespace Sys2Proof.Cert

open Machine

/-- Settles O47: each instruction is one `rotateA`, which clears `fZ` whatever the result is. -/
theorem rotateAccumulator : Obligations.RotateAccumulator := by
  refine ⟨⟨?_, ⟨rfl, rfl⟩, accRotDoes_of_computes (fun _ => rfl) rlc_computes⟩,
    ⟨?_, ⟨rfl, rfl⟩, accRotDoes_of_computes (fun _ => rfl) rrc_computes⟩,
    ⟨?_, ⟨rfl, rfl⟩, accRotDoes_of_computes (fun _ => rfl) rl_computes⟩,
    ⟨?_, ⟨rfl, rfl⟩, accRotDoes_of_computes (fun _ => rfl) rr_computes⟩⟩
  · exact codedAs_of_plain rfl (by decide)
  · exact codedAs_of_plain rfl (by decide)
  · exact codedAs_of_plain rfl (by decide)
  · exact codedAs_of_plain rfl (by decide)

/-- Settles O48: every form is one `rotateOperand`, so what is left to each operation is its function in numbers. -/
theorem rotateLeft : Obligations.RotateLeft :=
  ⟨⟨rotCoded_of_op .rlc, rotDoes_of_computes rlc_computes⟩, ⟨rotCoded_of_op .rl, rotDoes_of_computes rl_computes⟩,
    ⟨rotCoded_of_op .sla, rotDoes_of_computes sla_computes⟩, ⟨rotCoded_of_op .swap, rotDoes_of_computes swap_computes⟩⟩

/-- Settles O49: every form is one `rotateOperand`, so what is left to each operation is its function in numbers. -/
theorem rotateRight : Obligations.RotateRight :=
  ⟨⟨rotCoded_of_op .rrc, rotDoes_of_computes rrc_computes⟩, ⟨rotCoded_of_op .rr, rotDoes_of_computes rr_computes⟩,
    ⟨rotCoded_of_op .sra, rotDoes_of_computes sra_computes⟩, ⟨rotCoded_of_op .srl, rotDoes_of_computes srl_computes⟩⟩

/-- Settles O50: every form is one `testBit`, which writes `F` alone. -/
theorem testBit : Obligations.TestBit := by
  intro b o s
  rw [exec_bit]
  exact ⟨codedAs_of_extended (extendedInstr_bit b o), costs_bit b o, exists_testBit b o s⟩

/-- Settles O51: both instructions are one `changeBit`, which writes the operand even where its bit does not change. -/
theorem resetAndSetBit : Obligations.ResetAndSetBit := by
  intro b o s
  rw [exec_res, exec_set]
  refine ⟨⟨codedAs_of_extended (extendedInstr_res b o), costs_res b o, codedAs_of_extended (extendedInstr_set b o),
    costs_set b o⟩, fun hwritable hlegal => ⟨?_, ?_⟩, ?_⟩
  · obtain ⟨t, hnext, hvalue, hrest⟩ := exists_changeBit (clearBit b) hwritable hlegal
    exact ⟨t, hnext, hvalue ▸ getLsbD_clearBit b _, hrest⟩
  · obtain ⟨t, hnext, hvalue, hrest⟩ := exists_changeBit (raiseBit b) hwritable hlegal
    exact ⟨t, hnext, hvalue ▸ getLsbD_raiseBit b _, hrest⟩
  · rintro rfl hlt
    exact ⟨changeBit_atHl_of_lt (clearBit b) hlt, changeBit_atHl_of_lt (raiseBit b) hlt⟩

end Sys2Proof.Cert
end

section
/-! PROOFS. 45_control_flow.md: what the shared operations of jumps, calls and returns do, in the words of the statements. -/

namespace Sys2Proof.Cert

open Machine

/-! ## Conditions (R97, R307) -/

theorem condTrue_iff_holds (cc : Cond) (s : State) : condTrue cc s ↔ s.holds cc = true := by
  cases cc <;> simp [condTrue, State.holds]

/-- Every conditional form (R301, R304, R306, R309) does what its unconditional form does when it is taken. -/
theorem exec_of_taken {i : Instr} {cc : Cond} {s : State} {taken untaken : Result}
    (h : exec i s = if s.holds cc then taken else untaken) (hcc : condTrue cc s) : exec i s = taken :=
  h.trans (if_pos ((condTrue_iff_holds cc s).1 hcc))

theorem exec_of_untaken {i : Instr} {cc : Cond} {s : State} {taken untaken : Result}
    (h : exec i s = if s.holds cc then taken else untaken) (hcc : ¬condTrue cc s) : exec i s = untaken :=
  h.trans (if_neg (mt (condTrue_iff_holds cc s).2 hcc))

/-! ## Jumps -/

theorem frame.jumpTo {regs : List Reg8} {stored : List Word} {s t : State} (hf : frame regs stored s t) (target : Word) :
    frame regs stored s (t.jumpTo target) := by
  obtain ⟨hreg, hmem, hfaulted⟩ := hf
  exact ⟨fun r hr => (t.reg_jumpTo target r).trans (hreg r hr), hmem, hfaulted⟩

/-- The common effect of R300 to R304 when the jump is taken. -/
theorem onlyPc_of_jump {i : Instr} {target : Word} {s : State} (h : exec i s = jump target s) : onlyPc i target s :=
  ⟨s.jumpTo target, h, rfl, (frame_refl s).jumpTo target, rfl, rfl, rfl, rfl⟩

/-- An untaken jump, call or return makes the default advance and nothing else. -/
theorem onlyPc_of_finish {i : Instr} {len : Word} {s : State} (h : exec i s = finish len s) : onlyPc i (s.pc + len) s :=
  ⟨s.advance len, h, rfl, (frame_refl s).advance len, rfl, rfl, rfl, rfl⟩

/-- R303: the target of a relative jump in numbers. -/
theorem relativeTarget_eq {e8 : Byte} {s : State} {target : Word}
    (h : (target.toNat : Int) = ((s.pc.toNat : Int) + 2 + e8.toInt) % 0x10000) : relativeTarget e8 s = target := by
  have hsum : ((relativeTarget e8 s).toNat : Int) = ((s.nextPc 2).toNat + e8.toInt) % 0x10000 :=
    toNat_add_sext16 (s.nextPc 2) e8
  have hnext : (s.nextPc 2).toNat = (s.pc.toNat + 2) % 0x10000 := BitVec.toNat_add s.pc 2
  apply BitVec.eq_of_toNat_eq
  omega

/-! ## Calls and returns -/

theorem callSubroutine_of_canPush {s : State} (h : canPush s) (target len : Word) :
    callSubroutine target len s = .next ((s.afterPush (s.pc + len)).jumpTo target) := by
  rw [callSubroutine, State.push16_of_canPush h, Result.andThen_next]
  rfl

/-- The common effect of R305, R306 and R311. -/
theorem calls_of_exec {i : Instr} {target len : Word} {s : State} (h : exec i s = callSubroutine target len s) :
    calls i target (s.pc + len) s := by
  refine ⟨fun hpush hlegal => ?_, pushFaults_of_exec h⟩
  exact ⟨_, h.trans (callSubroutine_of_canPush hpush target len), rfl, pushed_afterPush hpush hlegal _,
    (frame_afterPush hpush _).jumpTo target, rfl, rfl, rfl⟩

theorem returnTo_of_top {s : State} (h : s.sp = 0xFFFF) : returnTo s = .fault .fatalBoundsError :=
  State.withPop16_of_top h jump

theorem returnTo_of_ne {s : State} (h : s.sp ≠ 0xFFFF) :
    returnTo s = .next ((s.setSp (s.sp + 2)).jumpTo (wordOf (s.read8 (s.sp + 1)) (s.read8 s.sp))) :=
  State.withPop16_of_ne h jump

theorem frame.setIme {regs : List Reg8} {stored : List Word} {s t : State} (hf : frame regs stored s t) (ime : Bool) :
    frame regs stored s { t with ime := ime } := by
  obtain ⟨hreg, hmem, hfaulted⟩ := hf
  refine ⟨fun r hr => ?_, hmem, hfaulted⟩
  rw [← hreg r hr]
  cases r <;> rfl

/-- The common effect of R308 to R310: RETI is the return from the state with `IME` set. -/
theorem returns_of_exec {i : Instr} {ime : Bool} {s : State} (h : exec i s = returnTo { s with ime := ime }) :
    returns i ime s := by
  refine ⟨fun hne => ?_, fun htop => h.trans (returnTo_of_top htop)⟩
  exact ⟨_, h.trans (returnTo_of_ne hne), toNat_wordOf _ _, rfl, (((frame_refl s).setIme ime).setSp _).jumpTo _, rfl, rfl,
    rfl⟩

/-! ## Encodings and costs (R101, R108) -/

theorem baseDescriptor_jp (cc : Cond) : baseDescriptor (0xC2 + 8 * condIndex cc) = .oneWord (Forms.jp cc) := by
  cases cc <;> rfl

theorem jp_opcode_ne_extendedByte (cc : Cond) : 0xC2 + 8 * condIndex cc ≠ 0xCB := by
  cases cc <;> decide

theorem costs_jp (cc : Cond) (a16 : Word) : costs (Forms.jp cc a16) 3 (.conditional cc 16 12) := by
  cases cc <;> exact ⟨rfl, rfl⟩

theorem codedAs_jr (cc : Cond) (e8 : Byte) : codedAs (Forms.jr cc e8) [0x20 + 8 * condIndex cc, e8] := by
  cases cc <;> exact codedAs_of_oneByte rfl (by decide) e8

theorem costs_jr (cc : Cond) (e8 : Byte) : costs (Forms.jr cc e8) 2 (.conditional cc 12 8) := by
  cases cc <;> exact ⟨rfl, rfl⟩

theorem baseDescriptor_call (cc : Cond) : baseDescriptor (0xC4 + 8 * condIndex cc) = .oneWord (Forms.call cc) := by
  cases cc <;> rfl

theorem call_opcode_ne_extendedByte (cc : Cond) : 0xC4 + 8 * condIndex cc ≠ 0xCB := by
  cases cc <;> decide

theorem costs_call (cc : Cond) (a16 : Word) : costs (Forms.call cc a16) 3 (.conditional cc 24 12) := by
  cases cc <;> exact ⟨rfl, rfl⟩

theorem codedAs_rst (k : Fin 8) : codedAs (Forms.rst k) [0xC7 + 8 * numIndex k] := by
  fin_cases k <;> exact codedAs_of_plain rfl (by decide)

theorem costs_rst (k : Fin 8) : costs (Forms.rst k) 1 (.fixed 16) := by
  fin_cases k <;> exact ⟨rfl, rfl⟩

theorem codedAs_ret (cc : Cond) : codedAs (Forms.ret cc) [0xC0 + 8 * condIndex cc] := by
  cases cc <;> exact codedAs_of_plain rfl (by decide)

theorem costs_ret (cc : Cond) : costs (Forms.ret cc) 1 (.conditional cc 20 8) := by
  cases cc <;> exact ⟨rfl, rfl⟩

end Sys2Proof.Cert
end

section
/-! PROOFS. 45_control_flow.md: the statements, each from what its shared operation does. -/

namespace Sys2Proof.Cert

open Machine

/-- Settles O52: each form is one `jump`, an untaken one the default advance, and a word operand can fault in the fetch. -/
theorem jumpAbsolute : Obligations.JumpAbsolute := by
  refine ⟨fun a16 s => ⟨codedAs_of_oneWord (f := .jpA16) rfl (by decide) a16, ⟨rfl, rfl⟩, onlyPc_of_jump rfl⟩,
    wordFetchFaults_of_oneWord (f := .jpA16) rfl (by decide), fun cc a16 s => ⟨?_, costs_jp cc a16, ?_, ?_⟩, fun cc => ?_,
    fun s => ⟨codedAs_of_plain rfl (by decide), ⟨rfl, rfl⟩, onlyPc_of_jump rfl⟩⟩
  · exact codedAs_of_oneWord (baseDescriptor_jp cc) (jp_opcode_ne_extendedByte cc) a16
  · exact fun hcc => onlyPc_of_jump (exec_of_taken (exec_jp cc a16 s) hcc)
  · exact fun hcc => onlyPc_of_finish (exec_of_untaken (exec_jp cc a16 s) hcc)
  · exact wordFetchFaults_of_oneWord (baseDescriptor_jp cc) (jp_opcode_ne_extendedByte cc)

/-- Settles O53: each form is one `jump` to `relativeTarget`, whose base is the address after the two bytes. -/
theorem jumpRelative : Obligations.JumpRelative := by
  intro e8 s target htarget
  obtain rfl := relativeTarget_eq htarget
  refine ⟨⟨codedAs_of_oneByte (f := .jrE8) rfl (by decide) e8, ⟨rfl, rfl⟩, onlyPc_of_jump rfl⟩,
    fun cc => ⟨codedAs_jr cc e8, costs_jr cc e8, fun hcc => ?_, fun hcc => ?_⟩⟩
  · exact onlyPc_of_jump (exec_of_taken (exec_jr cc e8 s) hcc)
  · exact onlyPc_of_finish (exec_of_untaken (exec_jr cc e8 s) hcc)

/-- Settles O54: each form is one `callSubroutine`, an untaken one the default advance, and a word operand can fault in the
fetch. -/
theorem callAndRestart : Obligations.CallAndRestart := by
  refine ⟨fun a16 s => ⟨codedAs_of_oneWord (f := .callA16) rfl (by decide) a16, ⟨rfl, rfl⟩, calls_of_exec rfl⟩,
    wordFetchFaults_of_oneWord (f := .callA16) rfl (by decide), fun cc a16 s => ⟨?_, costs_call cc a16, ?_, ?_⟩,
    fun cc => ?_, fun k s => ⟨codedAs_rst k, costs_rst k, calls_of_exec (exec_rst k s)⟩⟩
  · exact codedAs_of_oneWord (baseDescriptor_call cc) (call_opcode_ne_extendedByte cc) a16
  · exact fun hcc => calls_of_exec (exec_of_taken (exec_call cc a16 s) hcc)
  · exact fun hcc => onlyPc_of_finish (exec_of_untaken (exec_call cc a16 s) hcc)
  · exact wordFetchFaults_of_oneWord (baseDescriptor_call cc) (call_opcode_ne_extendedByte cc)

/-- Settles O55: each form is one `returnTo`, RETI from the state with `IME` set, and an untaken one the default advance. -/
theorem return' : Obligations.Return := by
  intro s
  refine ⟨⟨codedAs_of_plain rfl (by decide), ⟨rfl, rfl⟩, returns_of_exec rfl⟩,
    ⟨codedAs_of_plain rfl (by decide), ⟨rfl, rfl⟩, returns_of_exec rfl⟩,
    fun cc => ⟨codedAs_ret cc, costs_ret cc, fun hcc => ?_, fun hcc => ?_⟩⟩
  · exact returns_of_exec (exec_of_taken (exec_ret cc s) hcc)
  · exact onlyPc_of_finish (exec_of_untaken (exec_ret cc s) hcc)

end Sys2Proof.Cert
end

section
/-! PROOFS. 46_system.md and the step contract of 30_encoding.md: a step that can fetch runs what the bytes at `PC` decode to. -/

namespace Sys2Proof.Machine

open Cert

/-! ## What a step does, by `RUN` (R90, R325) -/

theorem step_of_active {s : State} (h : s.active) : step s = stepRunning s := by
  obtain ⟨hrun, hlive⟩ := h
  simp [step, hrun, hlive]

theorem step_of_lowPower {s : State} (hrun : s.run = .lowPower) (hlive : s.faulted = false) : step s = .next s := by
  simp [step, hrun, hlive]

theorem stepCycles_of_lowPower {s : State} (hrun : s.run = .lowPower) (hlive : s.faulted = false) :
    stepCycles s = some 0 := by
  rw [stepCycles, step_of_lowPower hrun hlive, hrun]

/-! ## The fetch and the decoder see the same instruction (R90) -/

/-- The operand read for a base-table entry decodes to what the two bytes after the opcode decode to, when a word operand has both
its addresses (R56). -/
theorem exists_fetchOperand {s : State} {op : Byte} {d : Descriptor} {i : Instr} {rest : List Byte} (henc : d.Encodes op)
    (hdec : decodeOperand d [s.read8 (s.pc + 1), s.read8 (s.pc + 2)] = .instr i rest)
    (hword : ¬(instrLength i = 3 ∧ s.pc = 0xFFFE)) :
    ∃ operand rest', fetchOperand s d = .ok operand ∧ decodeOperand d operand = .instr i rest' := by
  cases d with
  | plain _ | padded _ =>
    cases hdec
    exact ⟨[], [], rfl, rfl⟩
  | oneByte _ =>
    cases hdec
    exact ⟨[s.read8 (s.pc + 1)], [], rfl, rfl⟩
  | oneWord f =>
    cases hdec
    have hlen : instrLength (f (wordOf (s.read8 (s.pc + 2)) (s.read8 (s.pc + 1)))) = 3 :=
      (length_encode _).symm.trans (congrArg List.length (henc _))
    have hne : s.pc + 1 ≠ 0xFFFF := fun h => hword ⟨hlen, by bv_omega⟩
    have hnext : s.pc + 1 + 1 = s.pc + 2 := BitVec.add_assoc s.pc 1 1
    refine ⟨_, [], by rw [fetchOperand, State.read16_of_ne hne], ?_⟩
    rw [decodeOperand, wordOf_hiByte_loByte, hnext]

theorem exists_fetch {s : State} {i : Instr} {rest : List Byte} (hdec : decode (bytesAt s) = .instr i rest)
    (hword : ¬(instrLength i = 3 ∧ s.pc = 0xFFFE)) :
    ∃ bytes rest', fetch s = .ok bytes ∧ decode bytes = .instr i rest' := by
  by_cases hop : s.read8 s.pc = 0xCB
  · rw [bytesAt, hop, decode_extended] at hdec
    cases hdec
    exact ⟨_, [], if_pos hop, by rw [hop, decode_extended]⟩
  · obtain ⟨operand, rest', hfetch, hdec'⟩ :=
      exists_fetchOperand (baseDescriptor_encodes _) ((decode_base hop _).symm.trans hdec) hword
    exact ⟨_, rest', by rw [fetch, if_neg hop, hfetch], (decode_base hop _).trans hdec'⟩

theorem step_eq_exec_of_decode {s : State} {i : Instr} {rest : List Byte} (hactive : s.active)
    (hdec : decode (bytesAt s) = .instr i rest) (hword : ¬(instrLength i = 3 ∧ s.pc = 0xFFFE)) : step s = exec i s := by
  obtain ⟨bytes, rest', hfetch, hdec'⟩ := exists_fetch hdec hword
  rw [step_of_active hactive, stepRunning, hfetch]
  simp only [hdec']

/-! ## Writing `IME` -/

/-- The common effect of R323 and R324. -/
theorem exists_writeIme (ime : Bool) (s : State) :
    ∃ t, writeIme ime s = .next t ∧ t.ime = ime ∧ t.run = s.run ∧ t.sp = s.sp ∧ t.pc = s.pc + 1 ∧ t.f = s.f ∧
      frame [] [] s t :=
  ⟨_, rfl, rfl, rfl, rfl, rfl, rfl, ((frame_refl s).setIme ime).advance 1⟩

end Sys2Proof.Machine

namespace Sys2Proof.Cert

open Machine

/-! ## The statements -/

/-- Settles O57: NOP is the default advance alone, DI is one `writeIme`. -/
theorem nopAndDi : Obligations.NopAndDi := fun s =>
  ⟨⟨codedAs_of_plain rfl (by decide), ⟨rfl, rfl⟩, onlyPc_of_finish rfl⟩,
    codedAs_of_plain rfl (by decide), ⟨rfl, rfl⟩, exists_writeIme false s⟩

/-- Settles O3: `LowPower` fetches nothing, and `Wake` changes neither `PC` nor the bytes there, so the next step of the running core
is that of the instruction at the same place. -/
theorem idleStep : Obligations.IdleStep := by
  intro s hrun hlive
  have hactive : (applyEvent s .wake).active := ⟨rfl, hlive⟩
  refine ⟨step_of_lowPower hrun hlive, stepCycles_of_lowPower hrun hlive, hactive, rfl, fun i rest hdec hword => ?_⟩
  exact step_eq_exec_of_decode (s := applyEvent s .wake) hactive hdec hword

end Sys2Proof.Cert
end

section
/-! PROOFS. 60_exceptions.md R350: `IME` put aside. An operation that commutes with writing `IME` neither reads it nor writes it, and
every shared operation does. -/

namespace Sys2Proof.Machine

/-! ## Another value of `IME` -/

/-- The state with this value of `IME` and all else as it is. -/
def State.withIme (s : State) (b : Bool) : State := { s with ime := b }

/-- The outcome with this value of `IME` in the next state, where there is one. -/
def Result.withIme (r : Result) (b : Bool) : Result := r.andThen fun t => .next (t.withIme b)

/-- R350: the operation neither reads `IME` nor writes it. -/
def IgnoresIme (f : State → Result) : Prop := ∀ (s : State) (b : Bool), f (s.withIme b) = (f s).withIme b

@[simp] theorem Result.withIme_next (t : State) (b : Bool) : Result.withIme (.next t) b = .next (t.withIme b) := rfl
@[simp] theorem Result.withIme_fault (x : Fault) (b : Bool) : Result.withIme (.fault x) b = .fault x := rfl
@[simp] theorem Result.withIme_refused (x : Refusal) (b : Bool) : Result.withIme (.refused x) b = .refused x := rfl

/-- Put the old value of `IME` back: an operation that ignores `IME` answers it. -/
theorem IgnoresIme.ime_of_next {f : State → Result} (hf : IgnoresIme f) {s t : State} (h : f s = .next t) :
    t.ime = s.ime := by
  have hsame : f s = (f s).withIme s.ime := hf s s.ime
  rw [h, Result.withIme_next, Host.Outcome.next.injEq] at hsame
  rw [hsame]
  rfl

theorem Result.andThen_withIme {k : State → Result} (hk : IgnoresIme k) (r : Result) (b : Bool) :
    (r.withIme b).andThen k = (r.andThen k).withIme b := by
  cases r with
  | next t => exact hk t b
  | fault _ | refused _ => rfl

/-! ## What is read of the state -/

section
variable (s : State) (b : Bool)

@[simp] theorem State.pc_withIme : (s.withIme b).pc = s.pc := rfl
@[simp] theorem State.fC_withIme : (s.withIme b).fC = s.fC := rfl
@[simp] theorem State.hl_withIme : (s.withIme b).hl = s.hl := rfl
@[simp] theorem State.nextPc_withIme (n : Word) : (s.withIme b).nextPc n = s.nextPc n := rfl
@[simp] theorem State.read8_withIme (a : Word) : (s.withIme b).read8 a = s.read8 a := rfl
@[simp] theorem State.reg_withIme (r : Reg8) : (s.withIme b).reg r = s.reg r := by cases r <;> rfl
@[simp] theorem State.pair_withIme (p : Reg16) : (s.withIme b).pair p = s.pair p := by cases p <;> rfl
@[simp] theorem State.stackPair_withIme (p : StackPair) : (s.withIme b).stackPair p = s.stackPair p := by cases p <;> rfl
@[simp] theorem State.holds_withIme (cc : Cond) : (s.withIme b).holds cc = s.holds cc := by cases cc <;> rfl

@[simp] theorem State.operand_withIme (o : Operand8) : (s.withIme b).operand o = s.operand o := by
  cases o with
  | reg r => exact s.reg_withIme b r
  | atHl => rfl

@[simp] theorem relativeTarget_withIme (e8 : Byte) : relativeTarget e8 (s.withIme b) = relativeTarget e8 s := rfl

/-! ## What is written to the state -/

@[simp] theorem State.advance_withIme (n : Word) : (s.withIme b).advance n = (s.advance n).withIme b := rfl
@[simp] theorem State.setFlags_withIme (g : FlagSet) : (s.withIme b).setFlags g = (s.setFlags g).withIme b := rfl

@[simp] theorem State.setReg_withIme (r : Reg8) (v : Byte) : (s.withIme b).setReg r v = (s.setReg r v).withIme b := by
  cases r <;> rfl

@[simp] theorem State.setPair_withIme (p : Reg16) (v : Word) : (s.withIme b).setPair p v = (s.setPair p v).withIme b := by
  cases p <;> rfl

@[simp] theorem State.setStackPair_withIme (p : StackPair) (v : Word) :
    (s.withIme b).setStackPair p v = (s.setStackPair p v).withIme b := by
  cases p <;> rfl

@[simp] theorem State.aluResult_withIme (op : AluOp) (x : Byte) :
    (s.withIme b).aluResult op x = (s.aluResult op x).withIme b := by
  cases op <;> rfl

/-! ## The bus and the stack -/

@[simp] theorem State.write8_withIme (a : Word) (v : Byte) : (s.withIme b).write8 a v = (s.write8 a v).withIme b := by
  unfold State.write8
  split <;> rfl

@[simp] theorem State.write16_withIme (a v : Word) : (s.withIme b).write16 a v = (s.write16 a v).withIme b := by
  unfold State.write16
  split
  · rfl
  · split <;> rfl

@[simp] theorem State.push16_withIme (v : Word) : (s.withIme b).push16 v = (s.push16 v).withIme b :=
  (s.setSp (s.sp - 2)).write16_withIme b (s.sp - 2) v

theorem State.withPop16_withIme {k : Word → State → Result} (hk : ∀ v, IgnoresIme (k v)) :
    (s.withIme b).withPop16 k = (s.withPop16 k).withIme b := by
  by_cases htop : s.sp = 0xFFFF
  · rw [State.withPop16_of_top htop, State.withPop16_of_top (s := s.withIme b) htop, Result.withIme_fault]
  · rw [State.withPop16_of_ne htop, State.withPop16_of_ne (s := s.withIme b) htop]
    exact hk _ (s.setSp (s.sp + 2)) b

@[simp] theorem State.setOperand_withIme (o : Operand8) (v : Byte) :
    (s.withIme b).setOperand o v = (s.setOperand o v).withIme b := by
  cases o with
  | reg r => exact congrArg Host.Outcome.next (s.setReg_withIme b r v)
  | atHl => exact s.write8_withIme b s.hl v

end

/-! ## The shared operations of the instructions -/

theorem ignoresIme_finish (n : Word) : IgnoresIme (finish n) := fun _ _ => rfl

theorem ignoresIme_jump (target : Word) : IgnoresIme (jump target) := fun _ _ => rfl

theorem ignoresIme_loadReg (r : Reg8) (v : Byte) (n : Word) : IgnoresIme (loadReg r v n) := fun s b => by simp [loadReg]

theorem ignoresIme_loadPair (p : Reg16) (v n : Word) : IgnoresIme (loadPair p v n) := fun s b => by simp [loadPair]

theorem ignoresIme_storeByte (a : Word) (v : Byte) (n : Word) : IgnoresIme (storeByte a v n) := fun s b => by
  rw [storeByte, State.write8_withIme, Result.andThen_withIme (ignoresIme_finish n), storeByte]

theorem ignoresIme_storeWord (a v n : Word) : IgnoresIme (storeWord a v n) := fun s b => by
  rw [storeWord, State.write16_withIme, Result.andThen_withIme (ignoresIme_finish n), storeWord]

theorem ignoresIme_loadThenAdjustHl (delta : Word) : IgnoresIme (loadThenAdjustHl delta) := fun _ _ => rfl

theorem ignoresIme_storeThenAdjustHl (delta : Word) : IgnoresIme (storeThenAdjustHl delta) := fun s b => by
  have hk : IgnoresIme fun t => finish 1 (t.setHl (s.hl + delta)) := fun _ _ => rfl
  rw [storeThenAdjustHl, State.write8_withIme]
  exact Result.andThen_withIme hk _ b

theorem ignoresIme_pushPair (p : StackPair) : IgnoresIme (pushPair p) := fun s b => by
  rw [pushPair, State.stackPair_withIme, State.push16_withIme, Result.andThen_withIme (ignoresIme_finish 1), pushPair]

theorem ignoresIme_popPair (p : StackPair) : IgnoresIme (popPair p) := fun s b =>
  s.withPop16_withIme b fun v t b => by simp

theorem ignoresIme_aluOnA (op : AluOp) (x : Byte) (n : Word) : IgnoresIme (aluOnA op x n) := fun s b => by simp [aluOnA]

/-- The flags may depend on the state before, but not on its `IME`. -/
theorem ignoresIme_finish_setFlags (n : Word) (g : FlagSet) : IgnoresIme fun t => finish n (t.setFlags g) := fun _ _ => rfl

theorem ignoresIme_stepOperand (f : Byte → Bool → AluResult) (o : Operand8) : IgnoresIme (stepOperand f o) := fun s b => by
  rw [stepOperand, State.operand_withIme, State.fC_withIme, State.setOperand_withIme]
  exact Result.andThen_withIme (ignoresIme_finish_setFlags 1 _) _ b

theorem ignoresIme_rotateOperand (op : RotOp) (o : Operand8) : IgnoresIme (rotateOperand op o) := fun s b => by
  rw [rotateOperand, State.operand_withIme, State.fC_withIme, State.setOperand_withIme]
  exact Result.andThen_withIme (ignoresIme_finish_setFlags 2 _) _ b

theorem ignoresIme_testBit (k : Fin 8) (o : Operand8) : IgnoresIme (testBit k o) := fun s b => by simp [testBit]

theorem ignoresIme_changeBit (f : Byte → Byte) (o : Operand8) : IgnoresIme (changeBit f o) := fun s b => by
  rw [changeBit, State.operand_withIme, State.setOperand_withIme, Result.andThen_withIme (ignoresIme_finish 2), changeBit]

theorem ignoresIme_performExtended (op2 : Byte) : IgnoresIme (performExtended op2) := by
  unfold performExtended
  split
  · exact ignoresIme_rotateOperand _ _
  · exact ignoresIme_testBit _ _
  · exact ignoresIme_changeBit _ _
  · exact ignoresIme_changeBit _ _

theorem ignoresIme_addToHl (v : Word) : IgnoresIme (addToHl v) := fun _ _ => rfl

theorem ignoresIme_adjustPair (p : Reg16) (delta : Word) : IgnoresIme (adjustPair p delta) := fun s b => by
  simp [adjustPair]

theorem ignoresIme_jumpIf (cc : Cond) (target n : Word) : IgnoresIme (jumpIf cc target n) := fun s b => by
  rw [jumpIf, State.holds_withIme, jumpIf]
  split <;> rfl

theorem ignoresIme_callSubroutine (target n : Word) : IgnoresIme (callSubroutine target n) := fun s b => by
  rw [callSubroutine, State.nextPc_withIme, State.push16_withIme, Result.andThen_withIme (ignoresIme_jump target),
    callSubroutine]

theorem ignoresIme_callIf (cc : Cond) (target : Word) : IgnoresIme (callIf cc target) := fun s b => by
  rw [callIf, State.holds_withIme, callIf]
  split
  · exact ignoresIme_callSubroutine target 3 s b
  · rfl

theorem ignoresIme_returnTo : IgnoresIme returnTo := fun s b => s.withPop16_withIme b ignoresIme_jump

theorem ignoresIme_returnIf (cc : Cond) : IgnoresIme (returnIf cc) := fun s b => by
  rw [returnIf, State.holds_withIme, returnIf]
  split
  · exact ignoresIme_returnTo s b
  · rfl

end Sys2Proof.Machine
end

section
/-! PROOFS. 60_exceptions.md R344 and R350: who writes `IME`, that no step reads it, and the sizes of a mount. -/

namespace Sys2Proof.Machine

open Cert

/-! ## The instructions -/

/-- R350: the three instructions that write `IME`. -/
def writesIme (i : Instr) : Prop := i = .ei ∨ i = .reti ∨ i = .di

/-- Each form is a shared operation whose arguments are read from the state, and none of them is `IME`. -/
theorem ignoresIme_exec {i : Instr} (hi : ¬writesIme i) : IgnoresIme (exec i) := fun s b => by
  cases i using Instr.byForms with
  | form_ldRegReg r r' => simpa [exec_ldRegReg] using ignoresIme_loadReg r (s.reg r') 1 s b
  | form_ldRegImm r n => simpa [exec_ldRegImm] using ignoresIme_loadReg r n 2 s b
  | form_ldRegAtHl r => simpa [exec_ldRegAtHl] using ignoresIme_loadReg r (s.read8 s.hl) 1 s b
  | form_ldAtHlReg r => simpa [exec_ldAtHlReg] using ignoresIme_storeByte s.hl (s.reg r) 1 s b
  | form_ldPairImm p n => simpa [exec_ldPairImm] using ignoresIme_loadPair p n 3 s b
  | form_push p => simpa only [exec_push] using ignoresIme_pushPair p s b
  | form_pop p => simpa only [exec_pop] using ignoresIme_popPair p s b
  | form_alu op o => simpa [exec_alu] using ignoresIme_aluOnA op (s.operand o) 1 s b
  | form_aluImm op n => simpa [exec_aluImm] using ignoresIme_aluOnA op n 2 s b
  | form_inc o => simpa only [exec_inc] using ignoresIme_stepOperand inc8 o s b
  | form_dec o => simpa only [exec_dec] using ignoresIme_stepOperand dec8 o s b
  | form_addHl p => simpa [exec_addHl] using ignoresIme_addToHl (s.pair p) s b
  | form_incPair p => simpa only [exec_incPair] using ignoresIme_adjustPair p 1 s b
  | form_decPair p => simpa only [exec_decPair] using ignoresIme_adjustPair p (-1) s b
  | form_rot op o => simpa only [exec_rot] using ignoresIme_rotateOperand op o s b
  | form_bit k o => simpa only [exec_bit] using ignoresIme_testBit k o s b
  | form_res k o => simpa only [exec_res] using ignoresIme_changeBit (clearBit k) o s b
  | form_set k o => simpa only [exec_set] using ignoresIme_changeBit (raiseBit k) o s b
  | form_jp cc n => simpa only [exec_jp] using ignoresIme_jumpIf cc n 3 s b
  | form_jr cc n => simpa [exec_jr] using ignoresIme_jumpIf cc (relativeTarget n s) 2 s b
  | form_call cc n => simpa only [exec_call] using ignoresIme_callIf cc n s b
  | form_ret cc => simpa only [exec_ret] using ignoresIme_returnIf cc s b
  | form_rst k => simpa only [exec_rst] using ignoresIme_callSubroutine _ 1 s b
  | form_reserved k => simpa only [exec_reserved] using ignoresIme_finish 1 s b
  | one_ldAtA16Sp a16 => exact ignoresIme_storeWord a16 s.sp 3 s b
  | one_callA16 a16 => exact ignoresIme_callSubroutine a16 3 s b
  | one_ldAtHlN8 n8 => exact ignoresIme_storeByte s.hl n8 2 s b
  | one_ldhAtA8A a8 => exact ignoresIme_storeByte (highAddress a8) s.a 2 s b
  | one_ldAtA16A a16 => exact ignoresIme_storeByte a16 s.a 3 s b
  | one_ldAtBcA => exact ignoresIme_storeByte s.bc s.a 1 s b
  | one_ldAtDeA => exact ignoresIme_storeByte s.de s.a 1 s b
  | one_ldhAtCA => exact ignoresIme_storeByte (highAddress s.c) s.a 1 s b
  | one_ldiAtHlA => exact ignoresIme_storeThenAdjustHl 1 s b
  | one_lddAtHlA => exact ignoresIme_storeThenAdjustHl (-1) s b
  | one_ret => exact ignoresIme_returnTo s b
  | one_prefixCb => exact ignoresIme_performExtended (s.read8 (s.pc + 1)) s b
  | one_jrE8 | one_jpA16 | one_jpHl | one_addSpE8 | one_ldHlSpE8 | one_ldSpHl => rfl
  | one_ldAAtBc | one_ldAAtDe | one_ldAAtA16 | one_ldhAAtA8 | one_ldhAAtC | one_ldiAAtHl | one_lddAAtHl => rfl
  | one_rlca | one_rrca | one_rla | one_rra | one_daa | one_cpl | one_scf | one_ccf => rfl
  | one_nop | one_halt | one_stop => rfl
  | one_ei => exact absurd (.inl rfl) hi
  | one_reti => exact absurd (.inr (.inl rfl)) hi
  | one_di => exact absurd (.inr (.inr rfl)) hi

/-- R350: the value an instruction writes does not depend on the old one. -/
theorem exec_withIme_of_writesIme {i : Instr} (hi : writesIme i) (s : State) (b : Bool) :
    exec i (s.withIme b) = exec i s := by
  rcases hi with rfl | rfl | rfl <;> rfl

/-- Each of the three instructions is an operation that ignores `IME`, done in the state with the new value. -/
theorem ime_of_exec {i : Instr} {s t : State} (h : exec i s = .next t) :
    t.ime = if i = .ei ∨ i = .reti then true else if i = .di then false else s.ime := by
  by_cases hi : writesIme i
  · rcases hi with rfl | rfl | rfl
    · exact (ignoresIme_finish 1).ime_of_next (s := s.withIme true) h
    · exact ignoresIme_returnTo.ime_of_next (s := s.withIme true) h
    · exact (ignoresIme_finish 1).ime_of_next (s := s.withIme false) h
  · have hkept : t.ime = s.ime := (ignoresIme_exec hi).ime_of_next h
    simp only [writesIme, not_or] at hi
    obtain ⟨hei, hreti, hdi⟩ := hi
    simp [hei, hreti, hdi, hkept]

/-! ## The step -/

theorem sameButIme_refl (r : Result) : sameButIme r r := by
  cases r <;> rfl

theorem sameButIme_withIme (r : Result) (b : Bool) : sameButIme r (r.withIme b) := by
  cases r <;> rfl

theorem sameButIme_exec (i : Instr) (s : State) (b : Bool) : sameButIme (exec i s) (exec i (s.withIme b)) := by
  by_cases hi : writesIme i
  · rw [exec_withIme_of_writesIme hi]
    exact sameButIme_refl _
  · rw [ignoresIme_exec hi]
    exact sameButIme_withIme _ b

theorem fetchOperand_withIme (s : State) (b : Bool) (d : Descriptor) : fetchOperand (s.withIme b) d = fetchOperand s d := by
  cases d <;> rfl

theorem fetch_withIme (s : State) (b : Bool) : fetch (s.withIme b) = fetch s := by
  simp only [fetch, fetchOperand_withIme, State.read8_withIme, State.pc_withIme]

theorem sameButIme_stepRunning (s : State) (b : Bool) : sameButIme (stepRunning s) (stepRunning (s.withIme b)) := by
  simp only [stepRunning, fetch_withIme]
  cases fetch s with
  | error x => exact sameButIme_refl _
  | ok bytes =>
    dsimp only
    cases decode bytes with
    | instr i rest => exact sameButIme_exec i s b
    | rejected e => exact sameButIme_refl _

theorem step_of_faulted {s : State} (h : s.faulted = true) : step s = .refused .stepAfterFatalFault := by
  simp [step, h]

theorem sameButIme_step (s : State) (b : Bool) : sameButIme (step s) (step (s.withIme b)) := by
  cases hfaulted : s.faulted with
  | true =>
    rw [step_of_faulted hfaulted, step_of_faulted (s := s.withIme b) hfaulted]
    rfl
  | false =>
    cases hrun : s.run with
    | lowPower =>
      rw [step_of_lowPower hrun hfaulted, step_of_lowPower (s := s.withIme b) hrun hfaulted]
      rfl
    | running =>
      rw [step_of_active ⟨hrun, hfaulted⟩, step_of_active (s := s.withIme b) ⟨hrun, hfaulted⟩]
      exact sameButIme_stepRunning s b

/-! ## Mounts -/

theorem mountBank_of_le {data : List Byte} (h : data.length ≤ 0x4000) (base : Nat) (s : State) :
    mountBank base data s = .ok { s with mem := s.mem.writeBytes base data } := by
  rcases mountBank_cases base data s with ⟨-, hok⟩ | ⟨hgt, -⟩
  · exact hok
  · exact absurd h (Nat.not_le.2 hgt)

theorem mountBank_of_gt {data : List Byte} (h : data.length > 0x4000) (base : Nat) (s : State) :
    mountBank base data s = .error .invalidBankSize := by
  rcases mountBank_cases base data s with ⟨hle, -⟩ | ⟨-, herror⟩
  · exact absurd hle (Nat.not_le.2 h)
  · exact herror

theorem mountBank_nil (base : Nat) (s : State) : mountBank base [] s = .ok s := mountBank_of_le (Nat.zero_le _) base s

end Sys2Proof.Machine

namespace Sys2Proof.Cert

open Machine

/-! ## The statements -/

/-- Settles O11: every instruction but EI, RETI and DI commutes with writing `IME`, so it neither reads nor writes it, and those three
write a value of their own. -/
theorem imeIsNeverRead : Obligations.ImeIsNeverRead :=
  ⟨sameButIme_step, fun _ _ _ => ime_of_exec, fun _ _ _ => rfl, rfl⟩

/-- Settles O13: both mounts are one `mountBank`, which looks at the number of bytes alone. -/
theorem mountSizes : Obligations.MountSizes := fun _ s _ =>
  ⟨fun hgt => ⟨mountBank_of_gt hgt _ s, mountBank_of_gt hgt _ s⟩,
    fun hle => ⟨⟨_, mountBank_of_le hle _ s⟩, ⟨_, mountBank_of_le hle _ s⟩⟩, mountBank_nil _ s, mountBank_nil _ s⟩

end Sys2Proof.Cert
end

section
/-! PROOFS. 20_memory.md R70 and 60_exceptions.md R341, R342: what each shared operation does, told by its data access. It
ends with the fault of the access where there is one, and otherwise it stores nowhere but at the addresses of the access and
keeps the state legal. -/

namespace Sys2Proof.Machine

open Cert

/-! ## What an access leaves alone -/

theorem State.legal_iff {s : State} : s.legal = true ↔ s.flagsLegal = true ∧ s.mem.wf = true := by
  rw [State.legal, Bool.and_eq_true]

/-- From `s` to `t` no byte changes but at the addresses of the access, both invariants of a legal state are kept (R22, R54),
and so is the faulted mark (R33). -/
structure Keeps (acc : Access) (s t : State) : Prop where
  outside : ∀ x : Word, x ∉ acc.stored s → t.read8 x = s.read8 x
  wf : s.mem.wf = true → t.mem.wf = true
  flagsLegal : s.flagsLegal = true → t.flagsLegal = true
  faulted : t.faulted = s.faulted

section
variable {acc : Access} {s t u : State}

theorem Keeps.legal (h : Keeps acc s t) (hs : s.legal = true) : t.legal = true :=
  State.legal_iff.2 ((State.legal_iff.1 hs).imp h.flagsLegal h.wf)

theorem keeps_of_eq (hmem : t.mem = s.mem) (hf : t.f = s.f) (hfaulted : t.faulted = s.faulted) : Keeps acc s t :=
  ⟨fun x _ => State.read8_congr hmem x, fun h => hmem ▸ h, fun h => by rwa [State.flagsLegal, hf], hfaulted⟩

theorem Keeps.trans (h : Keeps acc s u) (h' : Keeps .noFault u t) : Keeps acc s t :=
  ⟨fun x hx => (h'.outside x List.not_mem_nil).trans (h.outside x hx), fun hs => h'.wf (h.wf hs),
    fun hs => h'.flagsLegal (h.flagsLegal hs), h'.faulted.trans h.faulted⟩

/-- Whatever flags are written, the low nibble of `F` is zero (R22). -/
theorem Keeps.setFlags (h : Keeps acc s t) (g : FlagSet) : Keeps acc s (t.setFlags g) :=
  ⟨h.outside, h.wf, fun _ => by simp [State.flagsLegal], h.faulted⟩

theorem keeps_setReg (s : State) (r : Reg8) (v : Byte) : Keeps acc s (s.setReg r v) :=
  keeps_of_eq (by simp) (by simp) (by simp)

theorem keeps_setHl (s : State) (v : Word) : Keeps acc s (s.setHl v) := keeps_of_eq rfl rfl rfl

theorem keeps_setSp (s : State) (v : Word) : Keeps acc s (s.setSp v) := keeps_of_eq rfl rfl rfl

theorem keeps_setIme (s : State) (ime : Bool) : Keeps acc s { s with ime := ime } := keeps_of_eq rfl rfl rfl

theorem keeps_setStackPair (s : State) (p : StackPair) (v : Word) : Keeps acc s (s.setStackPair p v) := by
  cases p with
  | bc | de | hl => exact keeps_of_eq rfl rfl rfl
  | af => exact ⟨fun _ _ => rfl, id, fun _ => by simp [State.flagsLegal, State.setStackPair], rfl⟩

theorem keeps_aluResult (s : State) (op : AluOp) (x : Byte) : Keeps acc s (s.aluResult op x) := by
  have hset (r : AluResult) : Keeps acc s (s.setResult r) := (keeps_setReg s .a r.value).setFlags r.flags
  cases op with
  | add | adc | sub | sbc | and | xor | or => exact hset _
  | cp => exact (keeps_of_eq rfl rfl rfl).setFlags _

/-! ## Outcomes -/

/-- The outcome is the fault that the access meets (R341, R342), or else a next state with this `PC` and this `RUN`, in which
no more than the access has changed. -/
def Follows (acc : Access) (pc : Word) (run : RunState) (s : State) (r : Result) : Prop :=
  (∀ x, acc.fault s = some x → r = .fault x) ∧
  (acc.fault s = none → ∃ t, r = .next t ∧ t.pc = pc ∧ t.run = run ∧ Keeps acc s t)

variable {pc : Word} {run : RunState} {r : Result}

theorem follows_fault {x : Fault} (hx : acc.fault s = some x) : Follows acc pc run s (.fault x) :=
  ⟨fun _ hy => congrArg Host.Outcome.fault (Option.some.inj (hx.symm.trans hy)), fun h => nomatch hx.symm.trans h⟩

theorem follows_next (hnone : acc.fault s = none) (hpc : t.pc = pc) (hrun : t.run = run) (hkeeps : Keeps acc s t) :
    Follows acc pc run s (.next t) :=
  ⟨fun _ hx => (nomatch hnone.symm.trans hx), fun _ => ⟨t, rfl, hpc, hrun, hkeeps⟩⟩

theorem Follows.of_next (h : Follows acc pc run s r) (hr : r = .next t) :
    acc.fault s = none ∧ t.pc = pc ∧ t.run = run ∧ Keeps acc s t := by
  obtain ⟨hfault, hnext⟩ := h
  cases hacc : acc.fault s with
  | some x => cases hr.symm.trans (hfault x hacc)
  | none =>
    obtain ⟨t', hr', hrest⟩ := hnext hacc
    cases hr.symm.trans hr'
    exact ⟨rfl, hrest⟩

theorem follows_finish (hkeeps : Keeps .noFault s t) (hpc : t.pc = s.pc) (hrun : t.run = s.run) (n : Word) :
    Follows .noFault (s.pc + n) s.run s (finish n t) :=
  follows_next rfl (congrArg (· + n) hpc) hrun ⟨hkeeps.outside, hkeeps.wf, hkeeps.flagsLegal, hkeeps.faulted⟩

theorem follows_finish_self (n : Word) (s : State) : Follows .noFault (s.pc + n) s.run s (finish n s) :=
  follows_finish (keeps_of_eq rfl rfl rfl) rfl rfl n

theorem follows_jump (target : Word) (s : State) : Follows .noFault target s.run s (jump target s) :=
  follows_next rfl rfl rfl (keeps_of_eq rfl rfl rfl)

/-- An access from a state that differs where nothing is stored and nothing can fault (`SP`, `IME`) is an access from the
state before. -/
theorem Follows.of_keeps {acc' : Access} (h : Follows acc' pc run u r) (hkeeps : Keeps .noFault s u)
    (hfault : acc.fault s = acc'.fault u) (hstored : acc.stored s = acc'.stored u) : Follows acc pc run s r := by
  obtain ⟨hf, hnext⟩ := h
  refine ⟨fun x hx => hf x (hfault ▸ hx), fun hnone => ?_⟩
  obtain ⟨t, ht, hpc, hrun, houtside, hwf, hflags, hfaulted⟩ := hnext (hfault ▸ hnone)
  exact ⟨t, ht, hpc, hrun, fun x hx => (houtside x (hstored ▸ hx)).trans (hkeeps.outside x List.not_mem_nil),
    fun hs => hwf (hkeeps.wf hs), fun hs => hflags (hkeeps.flagsLegal hs), hfaulted.trans hkeeps.faulted⟩

/-- What comes after the access meets no fault of its own; `next` says where it leaves `PC`. -/
theorem Follows.andThen {k : State → Result} (next : Word → Word) (h : Follows acc pc run s r)
    (hk : ∀ u, Follows .noFault (next u.pc) u.run u (k u)) : Follows acc (next pc) run s (r.andThen k) := by
  obtain ⟨hfault, hnext⟩ := h
  refine ⟨fun x hx => by rw [hfault x hx, Result.andThen_fault], fun hnone => ?_⟩
  obtain ⟨u, rfl, rfl, rfl, hkeeps⟩ := hnext hnone
  obtain ⟨t, ht, hpc, hrun, hkeeps'⟩ := (hk u).2 rfl
  exact ⟨t, ht, hpc, hrun, hkeeps.trans hkeeps'⟩

end

/-! ## The bus and the stack -/

theorem follows_write8 (a : ByteAddress) (v : Byte) (s : State) :
    Follows (.byteAt a) s.pc s.run s (s.write8 (a.inState s) v) := by
  rcases s.write8_cases (a.inState s) v with ⟨hlt, e⟩ | ⟨hge, e⟩
  · rw [e]
    exact follows_fault (if_pos hlt)
  · rw [e]
    exact follows_next (if_neg (Nat.not_lt.2 hge)) rfl rfl
      ⟨fun x hx => State.read8_write_other (List.ne_of_not_mem_cons hx), Memory.wf_write_word, id, rfl⟩

theorem wordStoreFault_of_lt {a : Word} (h : a.toNat < 0x8000) : wordStoreFault a = some .fatalWriteProtectionError :=
  if_pos h

theorem wordStoreFault_of_ge {a : Word} (hge : 0x8000 ≤ a.toNat) (hne : a ≠ 0xFFFF) : wordStoreFault a = none := by
  rw [wordStoreFault, if_neg (Nat.not_lt.2 hge), if_neg hne]

theorem wf_afterWrite16 {s : State} {a : Word} (ha : a ≠ 0xFFFF) (v : Word) (hm : s.mem.wf = true) :
    (s.afterWrite16 a v).mem.wf = true := by
  rw [State.afterWrite16, ← toNat_succ_of_ne ha]
  exact Memory.wf_write_word (Memory.wf_write_word hm)

theorem follows_write16 (a v : Word) (s : State) : Follows (.wordAt a) s.pc s.run s (s.write16 a v) := by
  rcases s.write16_cases a v with ⟨hlt, e⟩ | ⟨rfl, e⟩ | ⟨hge, hne, e⟩
  · rw [e]
    exact follows_fault (wordStoreFault_of_lt hlt)
  · rw [e]
    exact follows_fault rfl
  · rw [e]
    obtain ⟨-, hmem, -⟩ := frame_afterWrite16 s hne v
    exact follows_next (wordStoreFault_of_ge hge hne) rfl rfl ⟨hmem, wf_afterWrite16 hne v, id, rfl⟩

/-- R170: a push is a word write below the old `SP`. -/
theorem follows_push16 (v : Word) (s : State) : Follows .push s.pc s.run s (s.push16 v) := by
  have hstored : Access.stored s .push = [s.sp - 2, s.sp - 2 + 1] := by rw [Access.stored, sub_two_add_one]
  exact (follows_write16 (s.sp - 2) v (s.setSp (s.sp - 2))).of_keeps (keeps_of_eq rfl rfl rfl) rfl hstored

/-- The word at the top of the stack (R171). -/
def State.stackTop (s : State) : Word := wordOf (s.read8 (s.sp + 1)) (s.read8 s.sp)

/-- R171: what follows the read of the word meets no fault of its own; `next` says where it leaves `PC`, given the word and
the old `PC`. -/
theorem follows_withPop16 {k : Word → State → Result} (next : Word → Word → Word) (s : State)
    (hk : ∀ v u, Follows .noFault (next v u.pc) u.run u (k v u)) :
    Follows .pop (next s.stackTop s.pc) s.run s (s.withPop16 k) := by
  by_cases htop : s.sp = 0xFFFF
  · rw [State.withPop16_of_top htop]
    exact follows_fault (if_pos htop)
  · rw [State.withPop16_of_ne htop]
    obtain ⟨t, ht, hpc, hrun, hkeeps⟩ := (hk s.stackTop (s.setSp (s.sp + 2))).2 rfl
    exact ht ▸ follows_next (if_neg htop) hpc hrun ((keeps_setSp s _).trans hkeeps)

/-! ## Operands -/

/-- The access of an instruction that writes the operand (R95): a register cannot fault, `(HL)` is one byte stored. -/
def operandAccess : Operand8 → Access
  | .reg _ => .noFault
  | .atHl => .byteAt .hl

theorem follows_setOperand (o : Operand8) (v : Byte) (s : State) :
    Follows (operandAccess o) s.pc s.run s (s.setOperand o v) := by
  cases o with
  | reg r => exact follows_next rfl (by simp) (by simp) (keeps_setReg s r v)
  | atHl => exact follows_write8 .hl v s

theorem follows_finish_setFlags (g : FlagSet) (n : Word) (s : State) :
    Follows .noFault (s.pc + n) s.run s (finish n (s.setFlags g)) :=
  follows_finish ((keeps_of_eq rfl rfl rfl).setFlags g) rfl rfl n

theorem follows_stepOperand (f : Byte → Bool → AluResult) (o : Operand8) (s : State) :
    Follows (operandAccess o) (s.pc + 1) s.run s (stepOperand f o s) :=
  (follows_setOperand o _ s).andThen (· + 1) (follows_finish_setFlags _ 1)

theorem follows_rotateOperand (op : RotOp) (o : Operand8) (s : State) :
    Follows (operandAccess o) (s.pc + 2) s.run s (rotateOperand op o s) :=
  (follows_setOperand o _ s).andThen (· + 2) (follows_finish_setFlags _ 2)

theorem follows_changeBit (f : Byte → Byte) (o : Operand8) (s : State) :
    Follows (operandAccess o) (s.pc + 2) s.run s (changeBit f o s) :=
  (follows_setOperand o _ s).andThen (· + 2) (follows_finish_self 2)

/-! ## Loads, stores and arithmetic -/

theorem follows_loadReg (r : Reg8) (v : Byte) (n : Word) (s : State) :
    Follows .noFault (s.pc + n) s.run s (loadReg r v n s) :=
  follows_finish (keeps_setReg s r v) (by simp) (by simp) n

theorem follows_loadPair (p : Reg16) (v n : Word) (s : State) :
    Follows .noFault (s.pc + n) s.run s (loadPair p v n s) :=
  follows_finish (keeps_of_eq (by simp) (by simp) (by simp)) (by simp) (by simp) n

theorem follows_storeByte (a : ByteAddress) (v : Byte) (n : Word) (s : State) :
    Follows (.byteAt a) (s.pc + n) s.run s (storeByte (a.inState s) v n s) :=
  (follows_write8 a v s).andThen (· + n) (follows_finish_self n)

theorem follows_storeWord (a v n : Word) (s : State) : Follows (.wordAt a) (s.pc + n) s.run s (storeWord a v n s) :=
  (follows_write16 a v s).andThen (· + n) (follows_finish_self n)

theorem follows_storeThenAdjustHl (delta : Word) (s : State) :
    Follows (.byteAt .hl) (s.pc + 1) s.run s (storeThenAdjustHl delta s) :=
  (follows_write8 .hl s.a s).andThen (· + 1) fun u =>
    follows_finish (keeps_setHl u (s.hl + delta)) rfl rfl 1

theorem follows_pushPair (p : StackPair) (s : State) : Follows .push (s.pc + 1) s.run s (pushPair p s) :=
  (follows_push16 _ s).andThen (· + 1) (follows_finish_self 1)

theorem follows_popPair (p : StackPair) (s : State) : Follows .pop (s.pc + 1) s.run s (popPair p s) :=
  follows_withPop16 (fun _ pc => pc + 1) s fun v u => follows_finish (keeps_setStackPair u p v) (by simp) (by simp) 1

theorem follows_aluOnA (op : AluOp) (x : Byte) (n : Word) (s : State) :
    Follows .noFault (s.pc + n) s.run s (aluOnA op x n s) := by
  obtain ⟨⟨hrun, -⟩, -, hpc⟩ := plainEnd_aluResult s op x 0
  exact follows_finish (keeps_aluResult s op x) (by simpa using hpc) hrun n

theorem follows_loadThenAdjustHl (delta : Word) (s : State) :
    Follows .noFault (s.pc + 1) s.run s (loadThenAdjustHl delta s) :=
  follows_finish ((keeps_setReg s .a (s.read8 s.hl)).trans (keeps_setHl _ (s.hl + delta))) rfl rfl 1

/-- A register and then the flags written, as on the accumulator in R228, R229 and R250 to R253. -/
theorem follows_finish_setReg_setFlags (r : Reg8) (v : Byte) (g : FlagSet) (n : Word) (s : State) :
    Follows .noFault (s.pc + n) s.run s (finish n ((s.setReg r v).setFlags g)) :=
  follows_finish ((keeps_setReg s r v).setFlags g) (by simp) (by simp) n

theorem follows_finish_setHl_setFlags (v : Word) (g : FlagSet) (n : Word) (s : State) :
    Follows .noFault (s.pc + n) s.run s (finish n ((s.setHl v).setFlags g)) :=
  follows_finish ((keeps_setHl s v).setFlags g) rfl rfl n

theorem follows_addToSp (e8 : Byte) (s : State) : Follows .noFault (s.pc + 2) s.run s (addToSp e8 s) :=
  follows_finish ((keeps_setSp s (s.sp + sext16 e8)).setFlags (spDisplacementFlags s.sp e8)) rfl rfl 2

/-! ## `RUN` and `IME` -/

theorem follows_enterLowPower (n : Word) (s : State) : Follows .noFault (s.pc + n) .lowPower s (enterLowPower n s) :=
  follows_next rfl rfl rfl (keeps_of_eq rfl rfl rfl)

theorem follows_writeIme (ime : Bool) (s : State) : Follows .noFault (s.pc + 1) s.run s (writeIme ime s) :=
  follows_finish (keeps_setIme s ime) rfl rfl 1

/-! ## Jumps, calls and returns -/

theorem follows_jumpIf (cc : Cond) (target n : Word) (s : State) :
    Follows .noFault (if s.holds cc then target else s.pc + n) s.run s (jumpIf cc target n s) := by
  unfold jumpIf
  split
  · exact follows_jump target s
  · exact follows_finish_self n s

theorem follows_callSubroutine (target n : Word) (s : State) :
    Follows .push target s.run s (callSubroutine target n s) :=
  (follows_push16 _ s).andThen (fun _ => target) (follows_jump target)

theorem follows_returnTo (s : State) : Follows .pop s.stackTop s.run s (returnTo s) :=
  follows_withPop16 (fun v _ => v) s follows_jump

/-- An access under a condition is the access where the condition holds, and none where it does not (R306, R309). -/
theorem follows_of_condition {acc accIf : Access} {cc : Cond} {s : State} {target next : Word} {taken untaken : Result}
    (hfault : accIf.fault s = if s.holds cc then acc.fault s else none)
    (hstored : accIf.stored s = if s.holds cc then acc.stored s else [])
    (htaken : Follows acc target s.run s taken) (huntaken : Follows .noFault next s.run s untaken) :
    Follows accIf (if s.holds cc then target else next) s.run s (if s.holds cc then taken else untaken) := by
  cases hcc : s.holds cc with
  | true =>
    simp only [hcc, if_true] at hfault hstored ⊢
    exact htaken.of_keeps (keeps_of_eq rfl rfl rfl) hfault hstored
  | false =>
    simp only [hcc, Bool.false_eq_true, if_false] at hfault hstored ⊢
    exact huntaken.of_keeps (keeps_of_eq rfl rfl rfl) hfault hstored

theorem follows_callIf (cc : Cond) (target : Word) (s : State) :
    Follows (.pushIf cc) (if s.holds cc then target else s.pc + 3) s.run s (callIf cc target s) :=
  follows_of_condition (acc := .push) rfl rfl (follows_callSubroutine target 3 s) (follows_finish_self 3 s)

theorem follows_returnIf (cc : Cond) (s : State) :
    Follows (.popIf cc) (if s.holds cc then s.stackTop else s.pc + 1) s.run s (returnIf cc s) :=
  follows_of_condition (acc := .pop) rfl (ite_self []).symm (follows_returnTo s) (follows_finish_self 1 s)

end Sys2Proof.Machine
end

section
/-! PROOFS. 30_encoding.md R90 to R102: every instruction follows its access in the footprint table and makes the default
advance unless it sets `PC` itself. -/

namespace Sys2Proof.Machine

open Cert

/-! ## The footprint table, by operand form (R70) -/

theorem access_ldRegReg (r r' : Reg8) : instrAccess (Forms.ldRegReg r r') = .noFault := by cases r <;> cases r' <;> rfl
theorem access_ldRegImm (r : Reg8) (n : Byte) : instrAccess (Forms.ldRegImm r n) = .noFault := by cases r <;> rfl
theorem access_ldRegAtHl (r : Reg8) : instrAccess (Forms.ldRegAtHl r) = .noFault := by cases r <;> rfl
theorem access_ldAtHlReg (r : Reg8) : instrAccess (Forms.ldAtHlReg r) = .byteAt .hl := by cases r <;> rfl
theorem access_ldPairImm (p : Reg16) (n : Word) : instrAccess (Forms.ldPairImm p n) = .noFault := by cases p <;> rfl
theorem access_push (p : StackPair) : instrAccess (Forms.push p) = .push := by cases p <;> rfl
theorem access_pop (p : StackPair) : instrAccess (Forms.pop p) = .pop := by cases p <;> rfl
theorem access_aluImm (op : AluOp) (n : Byte) : instrAccess (Forms.aluImm op n) = .noFault := by cases op <;> rfl
theorem access_addHl (p : Reg16) : instrAccess (Forms.addHl p) = .noFault := by cases p <;> rfl
theorem access_incPair (p : Reg16) : instrAccess (Forms.incPair p) = .noFault := by cases p <;> rfl
theorem access_decPair (p : Reg16) : instrAccess (Forms.decPair p) = .noFault := by cases p <;> rfl
theorem access_jp (cc : Cond) (n : Word) : instrAccess (Forms.jp cc n) = .noFault := by cases cc <;> rfl
theorem access_jr (cc : Cond) (n : Byte) : instrAccess (Forms.jr cc n) = .noFault := by cases cc <;> rfl
theorem access_call (cc : Cond) (n : Word) : instrAccess (Forms.call cc n) = .pushIf cc := by cases cc <;> rfl
theorem access_ret (cc : Cond) : instrAccess (Forms.ret cc) = .popIf cc := by cases cc <;> rfl
theorem access_rst (k : Fin 8) : instrAccess (Forms.rst k) = .push := by fin_cases k <;> rfl
theorem access_reserved (k : Fin 11) : instrAccess (Forms.reserved k) = .noFault := by fin_cases k <;> rfl

theorem access_alu (op : AluOp) (o : Operand8) : instrAccess (Forms.alu op o) = .noFault := by
  rcases o with (_ | _ | _ | _ | _ | _ | _) | _ <;> cases op <;> rfl

theorem access_inc (o : Operand8) : instrAccess (Forms.inc o) = operandAccess o := by
  rcases o with (_ | _ | _ | _ | _ | _ | _) | _ <;> rfl

theorem access_dec (o : Operand8) : instrAccess (Forms.dec o) = operandAccess o := by
  rcases o with (_ | _ | _ | _ | _ | _ | _) | _ <;> rfl

theorem access_rot (op : RotOp) (o : Operand8) : instrAccess (Forms.rot op o) = operandAccess o := by
  rcases o with (_ | _ | _ | _ | _ | _ | _) | _ <;> cases op <;> rfl

theorem access_bit (k : Fin 8) (o : Operand8) : instrAccess (Forms.bit k o) = .noFault := by
  rcases o with (_ | _ | _ | _ | _ | _ | _) | _ <;> fin_cases k <;> rfl

theorem access_res (k : Fin 8) (o : Operand8) : instrAccess (Forms.res k o) = operandAccess o := by
  rcases o with (_ | _ | _ | _ | _ | _ | _) | _ <;> fin_cases k <;> rfl

theorem access_set (k : Fin 8) (o : Operand8) : instrAccess (Forms.set k o) = operandAccess o := by
  rcases o with (_ | _ | _ | _ | _ | _ | _) | _ <;> fin_cases k <;> rfl

theorem costs_reserved (k : Fin 11) : costs (Forms.reserved k) 1 (.fixed 4) := by
  fin_cases k <;> exact ⟨rfl, rfl⟩

/-! ## One instruction -/

/-- The instruction follows its access; only `HALT` and `STOP` change `RUN` (R358), and `PC` moves on by the length unless
control is transferred (R90, D18). -/
def Conforms (i : Instr) (s : State) : Prop :=
  ∃ pc run, Follows (instrAccess i) pc run s (exec i s) ∧ (i ≠ .halt ∧ i ≠ .stop → run = s.run) ∧
    (¬transfersControl i s → pc = s.pc + BitVec.ofNat 16 (instrLength i))

section
variable {i : Instr} {s : State} {acc : Access} {r : Result} {pc : Word} {len : Nat} {cost : Cost}

theorem conforms_of_transfer (hacc : instrAccess i = acc) (hexec : exec i s = r) (h : Follows acc pc s.run s r)
    (hcontrol : transfersControl i s) : Conforms i s := by
  subst hacc hexec
  exact ⟨pc, s.run, h, fun _ => rfl, fun hnot => absurd hcontrol hnot⟩

theorem conforms_of_advance (hacc : instrAccess i = acc) (hcosts : costs i len cost) (hexec : exec i s = r)
    (h : Follows acc (s.pc + BitVec.ofNat 16 len) s.run s r) : Conforms i s := by
  obtain ⟨rfl, -⟩ := hcosts
  subst hacc hexec
  exact ⟨_, s.run, h, fun _ => rfl, fun _ => rfl⟩

/-- A conditional jump, call or return transfers control when its condition holds (R307). -/
theorem conforms_of_condition {cc : Cond} (hacc : instrAccess i = acc) (hcosts : costs i len cost) (hexec : exec i s = r)
    (h : Follows acc (if s.holds cc then pc else s.pc + BitVec.ofNat 16 len) s.run s r)
    (hcontrol : condTrue cc s → transfersControl i s) : Conforms i s := by
  obtain ⟨rfl, -⟩ := hcosts
  subst hacc hexec
  refine ⟨_, s.run, h, fun _ => rfl, fun hnot => if_neg fun hholds => ?_⟩
  exact hnot (hcontrol ((condTrue_iff_holds cc s).2 hholds))

end

theorem transfersControl_jp {cc : Cond} {s : State} (h : condTrue cc s) (a16 : Word) :
    transfersControl (Forms.jp cc a16) s := by
  unfold transfersControl
  iterate 7 right
  exact .inl ⟨cc, a16, h, rfl⟩

theorem transfersControl_jr {cc : Cond} {s : State} (h : condTrue cc s) (e8 : Byte) :
    transfersControl (Forms.jr cc e8) s := by
  unfold transfersControl
  iterate 8 right
  exact .inl ⟨cc, e8, h, rfl⟩

theorem transfersControl_call {cc : Cond} {s : State} (h : condTrue cc s) (a16 : Word) :
    transfersControl (Forms.call cc a16) s := by
  unfold transfersControl
  iterate 9 right
  exact .inl ⟨cc, a16, h, rfl⟩

theorem transfersControl_ret {cc : Cond} {s : State} (h : condTrue cc s) : transfersControl (Forms.ret cc) s := by
  unfold transfersControl
  iterate 10 right
  exact ⟨cc, h, rfl⟩

/-- Every instruction but the entry 0xCB, which stands for another one. -/
theorem conforms {i : Instr} (hi : i ≠ .prefixCb) (s : State) : Conforms i s := by
  cases i using Instr.byForms with
  | form_ldRegReg r r' =>
    exact conforms_of_advance (access_ldRegReg r r') (costs_ldRegReg r r') (exec_ldRegReg r r' s) (follows_loadReg _ _ 1 s)
  | form_ldRegImm r n =>
    exact conforms_of_advance (access_ldRegImm r n) (costs_ldRegImm r n) (exec_ldRegImm r n s) (follows_loadReg _ _ 2 s)
  | form_ldRegAtHl r =>
    exact conforms_of_advance (access_ldRegAtHl r) (costs_ldRegAtHl r) (exec_ldRegAtHl r s) (follows_loadReg _ _ 1 s)
  | form_ldAtHlReg r =>
    exact conforms_of_advance (access_ldAtHlReg r) (costs_ldAtHlReg r) (exec_ldAtHlReg r s) (follows_storeByte .hl _ 1 s)
  | form_ldPairImm p n =>
    exact conforms_of_advance (access_ldPairImm p n) (costs_ldPairImm p n) (exec_ldPairImm p n s) (follows_loadPair _ _ 3 s)
  | form_push p => exact conforms_of_advance (access_push p) (costs_push p) (exec_push p s) (follows_pushPair p s)
  | form_pop p => exact conforms_of_advance (access_pop p) (costs_pop p) (exec_pop p s) (follows_popPair p s)
  | form_alu op o =>
    exact conforms_of_advance (access_alu op o) (costs_alu op o) (exec_alu op o s) (follows_aluOnA op _ 1 s)
  | form_aluImm op n =>
    exact conforms_of_advance (access_aluImm op n) (costs_aluImm op n) (exec_aluImm op n s) (follows_aluOnA op n 2 s)
  | form_inc o => exact conforms_of_advance (access_inc o) (costs_inc o) (exec_inc o s) (follows_stepOperand inc8 o s)
  | form_dec o => exact conforms_of_advance (access_dec o) (costs_dec o) (exec_dec o s) (follows_stepOperand dec8 o s)
  | form_addHl p =>
    exact conforms_of_advance (access_addHl p) (costs_addHl p) (exec_addHl p s) (follows_finish_setHl_setFlags _ _ 1 s)
  | form_incPair p =>
    exact conforms_of_advance (access_incPair p) (costs_incPair p) (exec_incPair p s) (follows_loadPair p _ 1 s)
  | form_decPair p =>
    exact conforms_of_advance (access_decPair p) (costs_decPair p) (exec_decPair p s) (follows_loadPair p _ 1 s)
  | form_rot op o =>
    exact conforms_of_advance (access_rot op o) (costs_rot op o) (exec_rot op o s) (follows_rotateOperand op o s)
  | form_bit k o =>
    exact conforms_of_advance (access_bit k o) (costs_bit k o) (exec_bit k o s) (follows_finish_setFlags _ 2 s)
  | form_res k o =>
    exact conforms_of_advance (access_res k o) (costs_res k o) (exec_res k o s) (follows_changeBit (clearBit k) o s)
  | form_set k o =>
    exact conforms_of_advance (access_set k o) (costs_set k o) (exec_set k o s) (follows_changeBit (raiseBit k) o s)
  | form_jp cc n =>
    exact conforms_of_condition (access_jp cc n) (costs_jp cc n) (exec_jp cc n s) (follows_jumpIf cc _ 3 s)
      fun hcc => transfersControl_jp hcc n
  | form_jr cc n =>
    exact conforms_of_condition (access_jr cc n) (costs_jr cc n) (exec_jr cc n s) (follows_jumpIf cc _ 2 s)
      fun hcc => transfersControl_jr hcc n
  | form_call cc n =>
    exact conforms_of_condition (access_call cc n) (costs_call cc n) (exec_call cc n s) (follows_callIf cc n s)
      fun hcc => transfersControl_call hcc n
  | form_ret cc =>
    exact conforms_of_condition (access_ret cc) (costs_ret cc) (exec_ret cc s) (follows_returnIf cc s)
      fun hcc => transfersControl_ret hcc
  | form_rst k =>
    exact conforms_of_transfer (access_rst k) (exec_rst k s) (follows_callSubroutine _ 1 s) (by simp [transfersControl])
  | form_reserved k =>
    exact conforms_of_advance (access_reserved k) (costs_reserved k) (exec_reserved k s) (follows_finish_self 1 s)
  | one_ldAtA16Sp a16 => exact conforms_of_advance rfl ⟨rfl, rfl⟩ rfl (follows_storeWord a16 s.sp 3 s)
  | one_callA16 a16 => exact conforms_of_transfer rfl rfl (follows_callSubroutine a16 3 s) (by simp [transfersControl])
  | one_ldAtHlN8 n8 => exact conforms_of_advance rfl ⟨rfl, rfl⟩ rfl (follows_storeByte .hl n8 2 s)
  | one_ldhAtA8A a8 => exact conforms_of_advance rfl ⟨rfl, rfl⟩ rfl (follows_storeByte (.high a8) s.a 2 s)
  | one_ldAtA16A a16 => exact conforms_of_advance rfl ⟨rfl, rfl⟩ rfl (follows_storeByte (.absolute a16) s.a 3 s)
  | one_ldAtBcA => exact conforms_of_advance rfl ⟨rfl, rfl⟩ rfl (follows_storeByte .bc s.a 1 s)
  | one_ldAtDeA => exact conforms_of_advance rfl ⟨rfl, rfl⟩ rfl (follows_storeByte .de s.a 1 s)
  | one_ldhAtCA => exact conforms_of_advance rfl ⟨rfl, rfl⟩ rfl (follows_storeByte .highC s.a 1 s)
  | one_ldiAtHlA => exact conforms_of_advance rfl ⟨rfl, rfl⟩ rfl (follows_storeThenAdjustHl 1 s)
  | one_lddAtHlA => exact conforms_of_advance rfl ⟨rfl, rfl⟩ rfl (follows_storeThenAdjustHl (-1) s)
  | one_ldAAtBc => exact conforms_of_advance rfl ⟨rfl, rfl⟩ rfl (follows_loadReg .a _ 1 s)
  | one_ldAAtDe => exact conforms_of_advance rfl ⟨rfl, rfl⟩ rfl (follows_loadReg .a _ 1 s)
  | one_ldhAAtC => exact conforms_of_advance rfl ⟨rfl, rfl⟩ rfl (follows_loadReg .a _ 1 s)
  | one_ldhAAtA8 a8 => exact conforms_of_advance rfl ⟨rfl, rfl⟩ rfl (follows_loadReg .a _ 2 s)
  | one_ldAAtA16 a16 => exact conforms_of_advance rfl ⟨rfl, rfl⟩ rfl (follows_loadReg .a _ 3 s)
  | one_ldiAAtHl => exact conforms_of_advance rfl ⟨rfl, rfl⟩ rfl (follows_loadThenAdjustHl 1 s)
  | one_lddAAtHl => exact conforms_of_advance rfl ⟨rfl, rfl⟩ rfl (follows_loadThenAdjustHl (-1) s)
  | one_ldHlSpE8 e8 => exact conforms_of_advance rfl ⟨rfl, rfl⟩ rfl (follows_finish_setHl_setFlags _ _ 2 s)
  | one_addSpE8 e8 => exact conforms_of_advance rfl ⟨rfl, rfl⟩ rfl (follows_addToSp e8 s)
  | one_ldSpHl => exact conforms_of_advance rfl ⟨rfl, rfl⟩ rfl (follows_loadPair .sp s.hl 1 s)
  | one_rlca | one_rrca | one_rla | one_rra | one_daa | one_cpl =>
    exact conforms_of_advance rfl ⟨rfl, rfl⟩ rfl (follows_finish_setReg_setFlags .a _ _ 1 s)
  | one_scf | one_ccf => exact conforms_of_advance rfl ⟨rfl, rfl⟩ rfl (follows_finish_setFlags _ 1 s)
  | one_nop => exact conforms_of_advance rfl ⟨rfl, rfl⟩ rfl (follows_finish_self 1 s)
  | one_ei => exact conforms_of_advance rfl ⟨rfl, rfl⟩ rfl (follows_writeIme true s)
  | one_di => exact conforms_of_advance rfl ⟨rfl, rfl⟩ rfl (follows_writeIme false s)
  | one_halt => exact ⟨_, _, follows_enterLowPower 1 s, fun h => absurd rfl h.1, fun _ => rfl⟩
  | one_stop => exact ⟨_, _, follows_enterLowPower 2 s, fun h => absurd rfl h.2, fun _ => rfl⟩
  | one_jrE8 e8 => exact conforms_of_transfer rfl rfl (follows_jump _ s) (by simp [transfersControl])
  | one_jpA16 a16 => exact conforms_of_transfer rfl rfl (follows_jump _ s) (by simp [transfersControl])
  | one_jpHl => exact conforms_of_transfer rfl rfl (follows_jump _ s) (by simp [transfersControl])
  | one_ret => exact conforms_of_transfer rfl rfl (follows_returnTo s) (by simp [transfersControl])
  | one_reti =>
    have hreturn : Follows .pop (s.withIme true).stackTop s.run s (returnTo (s.withIme true)) :=
      Follows.of_keeps (follows_returnTo (s.withIme true)) (keeps_setIme s true) rfl rfl
    exact conforms_of_transfer rfl rfl hreturn (by simp [transfersControl])
  | one_prefixCb => exact absurd rfl hi

end Sys2Proof.Machine
end

section
/-! PROOFS. 20_memory.md R70 and 60_exceptions.md R341, R342: every execution follows its access, the entry 0xCB through the
instruction it stands for; and what that says of a step. -/

namespace Sys2Proof.Machine

open Cert

/-! ## The entry 0xCB (R92) -/

theorem exec_extendedInstr (op2 : Byte) (s : State) : exec (extendedInstr op2) s = performExtended op2 s := by
  unfold extendedInstr performExtended
  generalize opX op2 = x
  match x with
  | 0 => exact exec_rot _ _ s
  | 1 => exact exec_bit _ _ s
  | 2 => exact exec_res _ _ s
  | 3 => exact exec_set _ _ s

/-- An instruction of the extended table is written with 0xCB first and has two bytes. -/
theorem extendedInstr_ne {i : Instr} (hi : ∀ op2, encode i ≠ [0xCB, op2]) (op2 : Byte) : extendedInstr op2 ≠ i :=
  fun h => hi op2 (h ▸ encode_extendedInstr op2)

theorem resolve_prefixCb (s : State) : resolve .prefixCb s = extendedInstr (s.read8 (s.pc + 1)) := if_pos rfl

theorem resolve_of_ne {i : Instr} (h : i ≠ .prefixCb) (s : State) : resolve i s = i := if_neg h

theorem exec_resolve (i : Instr) (s : State) : exec (resolve i s) s = exec i s := by
  by_cases hi : i = .prefixCb
  · subst hi
    rw [resolve_prefixCb, exec_extendedInstr]
    rfl
  · rw [resolve_of_ne hi]

/-- What stands for the entry 0xCB is never an instruction that is written otherwise. -/
theorem resolve_ne {i j : Instr} {s : State} (hj : ∀ op2, encode j ≠ [0xCB, op2]) (h : i = .prefixCb ∨ i ≠ j) :
    resolve i s ≠ j := by
  by_cases hi : i = .prefixCb
  · subst hi
    rw [resolve_prefixCb]
    exact extendedInstr_ne hj _
  · rw [resolve_of_ne hi]
    exact h.resolve_left hi

theorem conforms_resolve (i : Instr) (s : State) : Conforms (resolve i s) s :=
  conforms (resolve_ne (fun op2 => show [0xCB] ≠ [0xCB, op2] by simp) (em _)) s

/-! ## Every execution -/

theorem follows_exec (i : Instr) (s : State) : ∃ pc run, Follows (instrAccess (resolve i s)) pc run s (exec i s) := by
  obtain ⟨pc, run, hfollows, -⟩ := conforms_resolve i s
  exact ⟨pc, run, exec_resolve i s ▸ hfollows⟩

theorem keeps_exec {i : Instr} {s t : State} (h : exec i s = .next t) : Keeps (instrAccess (resolve i s)) s t := by
  obtain ⟨pc, run, hfollows⟩ := follows_exec i s
  obtain ⟨-, -, -, hkeeps⟩ := hfollows.of_next h
  exact hkeeps

theorem execFault_of_next {i : Instr} {s t : State} (h : exec i s = .next t) : execFault i s = none := by
  obtain ⟨pc, run, hfollows⟩ := follows_exec i s
  obtain ⟨hnone, -⟩ := hfollows.of_next h
  exact hnone

theorem pc_of_exec {i : Instr} {s t : State} (hi : i ≠ .prefixCb) (hcontrol : ¬transfersControl i s)
    (h : exec i s = .next t) : t.pc = s.pc + BitVec.ofNat 16 (instrLength i) := by
  obtain ⟨pc, run, hfollows, -, hadvance⟩ := conforms hi s
  obtain ⟨-, hpc, -⟩ := hfollows.of_next h
  exact hpc.trans (hadvance hcontrol)

theorem run_of_exec {i : Instr} {s t : State} (h : exec i s = .next t) :
    t.run = if i = .halt ∨ i = .stop then .lowPower else s.run := by
  split
  case isTrue hi =>
    rcases hi with rfl | rfl <;> cases h <;> rfl
  case isFalse hi =>
    obtain ⟨hi_halt, hi_stop⟩ := not_or.1 hi
    obtain ⟨pc, run, hfollows, hkept, -⟩ := conforms_resolve i s
    obtain ⟨-, -, hrun, -⟩ := hfollows.of_next ((exec_resolve i s).trans h)
    have hhalt : resolve i s ≠ .halt := resolve_ne (fun op2 => show [0x76] ≠ [0xCB, op2] by simp) (.inr hi_halt)
    have hstop : resolve i s ≠ .stop := resolve_ne (fun op2 => show [0x10, 0x00] ≠ [0xCB, op2] by simp) (.inr hi_stop)
    exact hrun.trans (hkept ⟨hhalt, hstop⟩)

/-! ## The ROM windows (R51, D4) -/

theorem wordStoreFault_eq_none {a : Word} (h : wordStoreFault a = none) :
    0x8000 ≤ a.toNat ∧ 0x8000 ≤ (a + 1).toNat := by
  unfold wordStoreFault at h
  split_ifs at h with hlt htop
  rw [toNat_succ_of_ne htop]
  omega

/-- An access that meets no fault stores at or above the boundary only. -/
theorem Access.le_of_mem_stored {acc : Access} {s : State} (hnone : acc.fault s = none) {x : Word}
    (hx : x ∈ acc.stored s) : 0x8000 ≤ x.toNat := by
  have hword {a : Word} (h : wordStoreFault a = none) (hmem : x ∈ [a, a + 1]) : 0x8000 ≤ x.toNat := by
    obtain ⟨hlo, hhi⟩ := wordStoreFault_eq_none h
    rcases List.mem_pair.1 hmem with rfl | rfl
    · exact hlo
    · exact hhi
  have hpush (h : wordStoreFault (s.sp - 2) = none) (hmem : x ∈ [s.sp - 2, s.sp - 1]) : 0x8000 ≤ x.toNat :=
    hword h (by rwa [sub_two_add_one])
  cases acc with
  | noFault | pop | popIf | extended => cases hx
  | byteAt a =>
    obtain rfl := List.mem_singleton.1 hx
    by_contra hlt
    exact nomatch (if_pos (Nat.not_le.1 hlt)).symm.trans hnone
  | wordAt a16 => exact hword hnone hx
  | push => exact hpush hnone hx
  | pushIf cc =>
    simp only [Access.fault] at hnone
    simp only [Access.stored] at hx
    cases hcc : s.holds cc with
    | true => exact hpush (by simpa [hcc] using hnone) (by simpa [hcc] using hx)
    | false => simp [hcc] at hx

/-! ## The step (R90) -/

/-- A completed step is the idle step, or one instruction. -/
theorem exec_of_step {s t : State} (h : step s = .next t) : t = s ∨ ∃ i, exec i s = .next t := by
  cases hfaulted : s.faulted with
  | true => exact nomatch (step_of_faulted hfaulted).symm.trans h
  | false =>
    cases hrun : s.run with
    | lowPower => exact .inl (Host.Outcome.next.inj (h.symm.trans (step_of_lowPower hrun hfaulted)))
    | running =>
      rw [step_of_active ⟨hrun, hfaulted⟩, stepRunning] at h
      split at h
      · cases h
      · split at h
        · exact .inr ⟨_, h⟩
        · cases h

theorem romKept_of_step {s t : State} (h : step s = .next t) : romKept s t := by
  rcases exec_of_step h with rfl | ⟨i, hexec⟩
  · exact fun _ _ => rfl
  · refine fun x hx => (keeps_exec hexec).outside x fun hmem => ?_
    exact absurd (Access.le_of_mem_stored (execFault_of_next hexec) hmem) (Nat.not_le.2 hx)

theorem legal_of_step {s t : State} (hs : s.legal = true) (h : step s = .next t) : t.legal = true := by
  rcases exec_of_step h with rfl | ⟨i, hexec⟩
  · exact hs
  · exact (keeps_exec hexec).legal hs

theorem faulted_of_step {s t : State} (h : step s = .next t) : t.faulted = s.faulted := by
  rcases exec_of_step h with rfl | ⟨i, hexec⟩
  · rfl
  · exact (keeps_exec hexec).faulted

end Sys2Proof.Machine

namespace Sys2Proof.Cert

open Machine

/-! ## The statements -/

/-- Settles O4: every execution follows its access, and the fault list is the fault of that access. -/
theorem execOutcome : Obligations.ExecOutcome := by
  intro i s
  obtain ⟨pc, run, hfault, hnext⟩ := follows_exec i s
  refine ⟨fun hnone => ?_, hfault⟩
  obtain ⟨t, ht, -⟩ := hnext hnone
  exact ⟨t, ht⟩

/-- Settles O6: nothing is stored outside the addresses of the access. -/
theorem memoryFrame : Obligations.MemoryFrame := fun _ _ _ h => (keeps_exec h).outside

/-- Settles O7: an access that meets no fault stores at or above the boundary only. -/
theorem romUnchanged : Obligations.RomUnchanged := fun _ _ => romKept_of_step

/-- Settles O8: an idle step changes nothing, and every execution keeps both invariants. -/
theorem stepKeepsLegal : Obligations.StepKeepsLegal := fun _ _ => legal_of_step

/-- Settles O10: an instruction that does not transfer control ends with the default advance. -/
theorem defaultAdvance : Obligations.DefaultAdvance := fun _ _ _ hwf hcontrol h =>
  pc_of_exec (of_decide_eq_true hwf) hcontrol h

end Sys2Proof.Cert
end

section
/-! PROOFS. 30_encoding.md R90 to R110: decoding takes the encoding of every instruction back, and what is decoded is the
encoding of what it decodes to. -/

namespace Sys2Proof

open Machine Cert

/-! ## Decoding what is encoded -/

theorem codedAs_reserved (k : Fin 11) :
    codedAs (Forms.reserved k)
      [([0xD3, 0xDB, 0xDD, 0xE3, 0xE4, 0xEB, 0xEC, 0xED, 0xF4, 0xFC, 0xFD] : List Byte).getD k.val 0x00] := by
  fin_cases k <;> exact codedAs_of_plain rfl (by decide)

theorem codedAs_alu (op : AluOp) (o : Operand8) : codedAs (Forms.alu op o) [0x80 + 8 * aluIndex op + operandIndex o] :=
  codedAs_of_plain (baseDescriptor_alu op o) (alu_opcode_ne_extendedByte op o)

/-- The instruction's bytes, whatever follows them, are read as the instruction. -/
def DecodesBack (i : Instr) : Prop := ∀ rest : List Byte, decode (encode i ++ rest) = .instr i rest

theorem decodesBack_of_codedAs {i : Instr} {bytes : List Byte} (h : codedAs i bytes) : DecodesBack i := by
  obtain ⟨rfl, hdecode⟩ := h
  exact hdecode

theorem decodesBack {i : Instr} (hi : i ≠ .prefixCb) : DecodesBack i := by
  cases i using Instr.byForms with
  | form_ldRegReg r r' => exact decodesBack_of_codedAs (codedAs_ldRegReg r r')
  | form_ldRegImm r n => exact decodesBack_of_codedAs (codedAs_ldRegImm r n)
  | form_ldRegAtHl r => exact decodesBack_of_codedAs (codedAs_ldRegAtHl r)
  | form_ldAtHlReg r => exact decodesBack_of_codedAs (codedAs_ldAtHlReg r)
  | form_ldPairImm p n =>
    exact decodesBack_of_codedAs (codedAs_of_oneWord (baseDescriptor_ldPairImm p) (ldPairImm_opcode_ne_extendedByte p) n)
  | form_push p => exact decodesBack_of_codedAs (codedAs_push p)
  | form_pop p => exact decodesBack_of_codedAs (codedAs_pop p)
  | form_alu op o => exact decodesBack_of_codedAs (codedAs_alu op o)
  | form_aluImm op n => exact decodesBack_of_codedAs (codedAs_aluImm op n)
  | form_inc o => exact decodesBack_of_codedAs (codedAs_inc o)
  | form_dec o => exact decodesBack_of_codedAs (codedAs_dec o)
  | form_addHl p => exact decodesBack_of_codedAs (codedAs_addHl p)
  | form_incPair p => exact decodesBack_of_codedAs (codedAs_incPair p)
  | form_decPair p => exact decodesBack_of_codedAs (codedAs_decPair p)
  | form_rot op o => exact decodesBack_of_codedAs (codedAs_of_extended (extendedInstr_rot op o))
  | form_bit k o => exact decodesBack_of_codedAs (codedAs_of_extended (extendedInstr_bit k o))
  | form_res k o => exact decodesBack_of_codedAs (codedAs_of_extended (extendedInstr_res k o))
  | form_set k o => exact decodesBack_of_codedAs (codedAs_of_extended (extendedInstr_set k o))
  | form_jp cc n =>
    exact decodesBack_of_codedAs (codedAs_of_oneWord (baseDescriptor_jp cc) (jp_opcode_ne_extendedByte cc) n)
  | form_jr cc n => exact decodesBack_of_codedAs (codedAs_jr cc n)
  | form_call cc n =>
    exact decodesBack_of_codedAs (codedAs_of_oneWord (baseDescriptor_call cc) (call_opcode_ne_extendedByte cc) n)
  | form_ret cc => exact decodesBack_of_codedAs (codedAs_ret cc)
  | form_rst k => exact decodesBack_of_codedAs (codedAs_rst k)
  | form_reserved k => exact decodesBack_of_codedAs (codedAs_reserved k)
  | one_ldAtA16Sp a16 => exact decodesBack_of_codedAs (codedAs_of_oneWord (op := 0x08) (f := .ldAtA16Sp) rfl (by decide) a16)
  | one_jpA16 a16 => exact decodesBack_of_codedAs (codedAs_of_oneWord (op := 0xC3) (f := .jpA16) rfl (by decide) a16)
  | one_callA16 a16 => exact decodesBack_of_codedAs (codedAs_of_oneWord (op := 0xCD) (f := .callA16) rfl (by decide) a16)
  | one_ldAtA16A a16 => exact decodesBack_of_codedAs (codedAs_of_oneWord (op := 0xEA) (f := .ldAtA16A) rfl (by decide) a16)
  | one_ldAAtA16 a16 => exact decodesBack_of_codedAs (codedAs_of_oneWord (op := 0xFA) (f := .ldAAtA16) rfl (by decide) a16)
  | one_jrE8 | one_ldAtHlN8 | one_ldhAtA8A | one_addSpE8 | one_ldhAAtA8 | one_ldHlSpE8 => exact fun _ => rfl
  | one_ldAtBcA | one_ldAAtBc | one_ldAtDeA | one_ldAAtDe | one_ldiAtHlA | one_ldiAAtHl | one_lddAtHlA | one_lddAAtHl =>
    exact fun _ => rfl
  | one_ldhAtCA | one_ldhAAtC | one_ldSpHl | one_ret | one_reti | one_jpHl => exact fun _ => rfl
  | one_rlca | one_rrca | one_rla | one_rra | one_daa | one_cpl | one_scf | one_ccf => exact fun _ => rfl
  | one_nop | one_halt | one_stop | one_di | one_ei => exact fun _ => rfl
  | one_prefixCb => exact absurd rfl hi

/-! ## Encoding what is decoded -/

/-- STOP's format `F2P` (R93). -/
def Descriptor.isPadded : Descriptor → Bool
  | .padded _ => true
  | _ => false

theorem isPadded_baseDescriptor (op : Byte) : (baseDescriptor op).isPadded = decide (op = 0x10) := by
  decide +revert

/-- STOP is the one entry with a padding byte (R93, R322). -/
theorem eq_stop_of_padded {op : Byte} {i : Instr} (h : baseDescriptor op = .padded i) : op = 0x10 ∧ i = .stop := by
  have hop := isPadded_baseDescriptor op
  rw [h] at hop
  obtain rfl : op = 0x10 := of_decide_eq_true hop.symm
  cases h
  exact ⟨rfl, rfl⟩

theorem decodeOperand_eq_instr {op : Byte} {d : Descriptor} {bytes rest : List Byte} {i : Instr} (henc : d.Encodes op)
    (hdec : decodeOperand d bytes = .instr i rest) :
    op :: bytes = encode i ++ rest ∨ (d = .padded i ∧ rest = bytes.drop 1) := by
  cases d with
  | plain _ =>
    cases hdec
    exact .inl (congrArg (· ++ bytes) (henc : encode _ = [op])).symm
  | padded _ =>
    cases hdec
    exact .inr ⟨rfl, rfl⟩
  | oneByte f =>
    match bytes with
    | [] => cases hdec
    | n :: _ =>
      cases hdec
      exact .inl (congrArg (· ++ rest) (henc n)).symm
  | oneWord f =>
    match bytes with
    | [] | [_] => cases hdec
    | lo :: hi :: _ =>
      cases hdec
      have hword := henc (wordOf hi lo)
      rw [loByte_wordOf, hiByte_wordOf] at hword
      exact .inl (congrArg (· ++ rest) hword).symm

/-- What is decoded is written as the bytes it was read from, or it is STOP with a padding byte of any value, or with none at
the end. -/
theorem decode_eq_instr {bytes rest : List Byte} {i : Instr} (h : decode bytes = .instr i rest) :
    (i.wellFormed = true ∧ bytes = encode i ++ rest) ∨
    (i = .stop ∧ ((bytes = [0x10] ∧ rest = []) ∨ ∃ pad, bytes = [0x10, pad] ++ rest)) := by
  match bytes with
  | [] => cases h
  | op :: bytes =>
    by_cases hop : op = 0xCB
    · subst hop
      match bytes with
      | [] => cases h
      | op2 :: _ =>
        cases h
        have henc := encode_extendedInstr op2
        exact .inl ⟨wellFormed_of_encode_ne (by simp [henc]), by rw [henc]; rfl⟩
    · rw [decode_base hop] at h
      rcases decodeOperand_eq_instr (baseDescriptor_encodes op) h with hbytes | ⟨hpadded, rfl⟩
      · refine .inl ⟨wellFormed_of_encode_ne fun hcb => hop ?_, hbytes⟩
        rw [hcb] at hbytes
        exact (List.cons.inj hbytes).1
      · obtain ⟨rfl, rfl⟩ := eq_stop_of_padded hpadded
        match bytes with
        | [] => exact .inr ⟨rfl, .inl ⟨rfl, rfl⟩⟩
        | pad :: _ => exact .inr ⟨rfl, .inr ⟨pad, rfl⟩⟩

theorem wellFormed_of_decode {bytes rest : List Byte} {i : Instr} (h : decode bytes = .instr i rest) :
    i.wellFormed = true := by
  rcases decode_eq_instr h with ⟨hwf, -⟩ | ⟨rfl, -⟩
  · exact hwf
  · rfl

end Sys2Proof

namespace Sys2Proof.Cert

open Machine

/-! ## The statements -/

/-- Settles O19: every form but the entry 0xCB is read back from its encoding. -/
theorem decodeOfEncode : Obligations.DecodeOfEncode := fun _ rest hwf => decodesBack (of_decide_eq_true hwf) rest

/-- Settles O20: an instruction is decoded from its encoding, and STOP also from its opcode with another padding byte or
none. -/
theorem encodeOfDecode : Obligations.EncodeOfDecode := by
  intro bytes rest i h
  refine ⟨wellFormed_of_decode h, ?_⟩
  rcases decode_eq_instr h with ⟨-, hbytes⟩ | ⟨rfl, hstop⟩
  · exact ⟨fun _ => hbytes, fun hi => .inr ⟨0x00, by rw [hbytes, hi]; rfl⟩⟩
  · exact ⟨fun hne => absurd rfl hne, fun _ => hstop⟩

/-- Settles O23: `PREFIX CB` is not well formed, and its meaning is that of the extended table's entry for the next byte. -/
theorem extendedEntry : Obligations.ExtendedEntry := by
  refine ⟨fun bytes rest h => absurd (wellFormed_of_decode h) (by decide), fun s => ?_⟩
  have hdec := decode_extended (s.read8 (s.pc + 1)) []
  exact ⟨_, hdec, wellFormed_of_decode hdec, (exec_extendedInstr _ s).symm⟩

/-- Settles O21: each sample is read off the decode tables. -/
theorem decodeSamples : Obligations.DecodeSamples :=
  ⟨rfl, rfl, rfl, rfl, rfl, rfl, rfl, rfl, rfl, rfl, rfl, rfl, rfl⟩

end Sys2Proof.Cert
end

section
/-! PROOFS. 30_encoding.md R90, R108 and 60_exceptions.md R343, R347: what a step of a running core does, and the cycles it
reports. -/

namespace Sys2Proof.Machine

open Cert

/-! ## The operand fetch comes first (D23) -/

theorem length_of_decodeOperand {op : Byte} {d : Descriptor} {bytes rest : List Byte} {i : Instr} (henc : d.Encodes op)
    (hdec : decodeOperand d bytes = .instr i rest) : instrLength i = d.length := by
  rw [← length_encode]
  cases d with
  | plain _ | padded _ =>
    cases hdec
    exact congrArg List.length henc
  | oneByte f =>
    match bytes with
    | [] => cases hdec
    | n :: _ =>
      cases hdec
      exact congrArg List.length (henc n)
  | oneWord f =>
    match bytes with
    | [] | [_] => cases hdec
    | lo :: hi :: _ =>
      cases hdec
      exact congrArg List.length (henc (wordOf hi lo))

/-- Three bytes long are the instructions with a word operand, and no others. -/
theorem exists_oneWord_of_length {bytes rest : List Byte} {op : Byte} {i : Instr}
    (hdec : decode (op :: bytes) = .instr i rest) (hlen : instrLength i = 3) : op ≠ 0xCB ∧ ∃ f, baseDescriptor op = .oneWord f := by
  by_cases hop : op = 0xCB
  · subst hop
    match bytes with
    | [] => cases hdec
    | op2 :: _ =>
      cases hdec
      rw [← length_encode, encode_extendedInstr] at hlen
      cases hlen
  · rw [decode_base hop] at hdec
    have hd := (length_of_decodeOperand (baseDescriptor_encodes op) hdec).symm.trans hlen
    refine ⟨hop, ?_⟩
    cases hdesc : baseDescriptor op with
    | oneWord f => exact ⟨f, rfl⟩
    | plain _ | padded _ | oneByte _ =>
      rw [hdesc] at hd
      cases hd

theorem step_of_operand_at_top {s : State} {i : Instr} {rest : List Byte} (hactive : s.active)
    (hdec : decode (bytesAt s) = .instr i rest) (hlen : instrLength i = 3) (hpc : s.pc = 0xFFFE) :
    step s = .fault .fatalBoundsError := by
  obtain ⟨hop, f, hdesc⟩ := exists_oneWord_of_length hdec hlen
  exact wordFetchFaults_of_oneWord hdesc hop s hactive hpc (by rw [hpc])

/-- R109: the bytes at `PC` decode, whatever they are. -/
theorem exists_decode_bytesAt (s : State) : ∃ i rest, decode (bytesAt s) = .instr i rest := by
  obtain ⟨_, -, -, hdecode, -⟩ := decodingIsTotal (s.read8 s.pc) (s.read8 (s.pc + 1))
  obtain ⟨i, rest, hdec, -⟩ := hdecode (s.read8 (s.pc + 2))
  exact ⟨i, rest, hdec⟩

/-! ## Cycles (R108, R307) -/

theorem stepCycles_of_active {s t : State} {i : Instr} {rest : List Byte} (hactive : s.active)
    (hdec : decode (bytesAt s) = .instr i rest) (hstep : step s = .next t) :
    stepCycles s = some ((instrCost i).inState s) := by
  have hword : ¬(instrLength i = 3 ∧ s.pc = 0xFFFE) := fun ⟨hlen, hpc⟩ =>
    nomatch (step_of_operand_at_top hactive hdec hlen hpc).symm.trans hstep
  obtain ⟨bytes, rest', hfetch, hdec'⟩ := exists_fetch hdec hword
  simp only [stepCycles, hstep, hactive.1, hfetch, hdec']

/-- A cost the table may hold: multiples of 4 from 4 to 24, the taken one the higher. -/
def Cost.inRange : Cost → Bool
  | .fixed n => decide (n % 4 = 0 ∧ 4 ≤ n ∧ n ≤ 24)
  | .conditional _ taken untaken =>
    decide (taken % 4 = 0 ∧ untaken % 4 = 0 ∧ 4 ≤ untaken ∧ untaken < taken ∧ taken ≤ 24)

/-- Each row of the cost table is looked at. -/
theorem inRange_instrCost (i : Instr) : (instrCost i).inRange = true := by
  cases i <;> rfl

end Sys2Proof.Machine

namespace Sys2Proof.Cert

open Machine

/-! ## The statements -/

/-- Settles O2: the fetch reads the bytes the decoder needs, unless a word operand lies at the last address. -/
theorem stepRunsDecoded : Obligations.StepRunsDecoded := fun _ _ _ hactive hdec =>
  ⟨step_eq_exec_of_decode hactive hdec, fun ⟨hlen, hpc⟩ => step_of_operand_at_top hactive hdec hlen hpc⟩

/-- Settles O5: a step past the operand fetch is the execution of the decoded instruction, which follows the fault list. -/
theorem stepOutcome : Obligations.StepOutcome := by
  refine ⟨fun s hactive => ?_, fun _ => step_of_faulted⟩
  obtain ⟨i, rest, hdec⟩ := exists_decode_bytesAt s
  obtain ⟨hrun, hfetch⟩ := stepRunsDecoded s i rest hactive hdec
  obtain ⟨hnext, hfault⟩ := execOutcome i s
  exact ⟨i, rest, hdec, hfetch, fun hword => hrun hword ▸ hnext, fun hword => hrun hword ▸ hfault⟩

/-- Settles O24: a completed step reports the cost of what was decoded, and each row of the table is in range. -/
theorem cyclesReported : Obligations.CyclesReported := by
  refine ⟨fun s t i rest hactive hdec hstep => ?_, fun i => ?_⟩
  · rw [stepCycles_of_active hactive hdec hstep]
    refine ⟨fun n hn => by rw [hn]; rfl, fun cc k u hk => ?_⟩
    rw [hk, condTrue_iff_holds]
    exact ⟨fun hcc => congrArg some (if_pos hcc), fun hcc => congrArg some (if_neg hcc)⟩
  · have hrange := inRange_instrCost i
    refine ⟨fun n hn => ?_, fun cc k u hk => ?_⟩
    · rw [hn] at hrange
      exact of_decide_eq_true hrange
    · rw [hk] at hrange
      exact of_decide_eq_true hrange

end Sys2Proof.Cert
end

section
/-! PROOFS. 20_memory.md section 4, 60_exceptions.md R351 and 70_reset_and_hazards.md section 2: reset, mounts, events and
runs of the host loop. -/

namespace Sys2Proof.Machine

open Cert

/-! ## Events -/

theorem State.legal_withMem {s : State} (hs : s.legal = true) {m : Memory} (hm : m.wf = true) :
    State.legal { s with mem := m } = true :=
  State.legal_iff.2 ((State.legal_iff.1 hs).imp id fun _ => hm)

theorem applyEvent_write_of_lt {s : State} {a : Word} (h : a.toNat < 0x8000) (v : Byte) :
    applyEvent s (.write a v) = s := if_pos h

theorem applyEvent_write_of_ge {s : State} {a : Word} (h : 0x8000 ≤ a.toNat) (v : Byte) :
    applyEvent s (.write a v) = { s with mem := s.mem.write a.toNat v } := if_neg (Nat.not_lt.2 h)

theorem legal_applyEvent {s : State} (hs : s.legal = true) (ev : EnvEvent) : (applyEvent s ev).legal = true := by
  cases ev with
  | wake => exact hs
  | setIme ime => exact hs
  | write a v =>
    rcases Nat.lt_or_ge a.toNat 0x8000 with hlt | hge
    · rwa [applyEvent_write_of_lt hlt]
    · rw [applyEvent_write_of_ge hge]
      exact State.legal_withMem hs (Memory.wf_write_word (State.wf_mem_of_legal hs))

theorem legal_applyEnv {s : State} (hs : s.legal = true) (env : List EnvEvent) : (applyEnv env s).legal = true := by
  induction env generalizing s with
  | nil => exact hs
  | cons ev env ih => exact ih (legal_applyEvent hs ev)

/-- I11: a peripheral's write is seen at its own address, at or above the boundary. -/
theorem read8_applyEvent_write {s : State} (hs : s.legal = true) (a x : Word) (v : Byte) :
    (applyEvent s (.write a v)).read8 x = if x = a ∧ 0x8000 ≤ a.toNat then v else s.read8 x := by
  rcases Nat.lt_or_ge a.toNat 0x8000 with hlt | hge
  · rw [applyEvent_write_of_lt hlt, if_neg fun h => Nat.not_le.2 hlt h.2]
  · rw [applyEvent_write_of_ge hge, State.read8_write (State.wf_mem_of_legal hs)]
    simp [hge]

theorem applyEvent_write_eq (s : State) (a : Word) (v : Byte) :
    applyEvent s (.write a v) = { s with mem := (applyEvent s (.write a v)).mem } := by
  rcases Nat.lt_or_ge a.toNat 0x8000 with hlt | hge
  · rw [applyEvent_write_of_lt hlt]
  · rw [applyEvent_write_of_ge hge]

/-- The state with this value of the faulted mark and all else as it is. -/
def State.withFaulted (s : State) (b : Bool) : State := { s with faulted := b }

/-- No event reads the faulted mark (log 17). -/
theorem applyEvent_withFaulted (s : State) (b : Bool) (ev : EnvEvent) :
    applyEvent (s.withFaulted b) ev = (applyEvent s ev).withFaulted b := by
  cases ev with
  | wake | setIme => rfl
  | write a v =>
    rcases Nat.lt_or_ge a.toNat 0x8000 with hlt | hge
    · rw [applyEvent_write_of_lt hlt, applyEvent_write_of_lt hlt]
    · rw [applyEvent_write_of_ge hge, applyEvent_write_of_ge hge]
      rfl

/-- The mark taken away and put back. -/
theorem State.withFaulted_false_true {s : State} (h : s.faulted = true) : (s.withFaulted false).withFaulted true = s := by
  rw [← h]
  rfl

/-! ## Mounts -/

theorem mountBank_eq_ok {base : Nat} {data : List Byte} {s t : State} (h : mountBank base data s = .ok t) :
    data.length ≤ 0x4000 ∧ t = { s with mem := s.mem.writeBytes base data } := by
  rcases mountBank_cases base data s with ⟨hle, hok⟩ | ⟨-, herror⟩
  · exact ⟨hle, Except.ok.inj (h.symm.trans hok)⟩
  · cases h.symm.trans herror

theorem legal_mountBank {base : Nat} (hbase : base ≤ 0x4000) {data : List Byte} {s t : State} (hs : s.legal = true)
    (h : mountBank base data s = .ok t) : t.legal = true := by
  obtain ⟨hle, rfl⟩ := mountBank_eq_ok h
  exact State.legal_withMem hs (Memory.wf_writeBytes (by omega) (State.wf_mem_of_legal hs))

/-- R58, D20: the bytes given lie from the base of the window on, and the rest keeps its value. -/
theorem mountBank_copies {base : Nat} (hbase : base ≤ 0x4000) {data : List Byte} {s t : State} (hs : s.legal = true)
    (h : mountBank base data s = .ok t) :
    (∀ x : Word, t.read8 x =
      if base ≤ x.toNat ∧ x.toNat - base < data.length then data.getD (x.toNat - base) 0x00 else s.read8 x) ∧
    t = { s with mem := t.mem } := by
  obtain ⟨hle, rfl⟩ := mountBank_eq_ok h
  refine ⟨fun x => (Memory.read_writeBytes (by omega) (State.wf_mem_of_legal hs)).trans ?_, rfl⟩
  by_cases hx : base ≤ x.toNat ∧ x.toNat < base + data.length
  · rw [dif_pos hx, if_pos (by omega), List.getD_eq_getElem]
  · rw [dif_neg hx, if_neg (by omega)]
    rfl

/-- No mount reads the faulted mark (log 17). -/
theorem mountBank_withFaulted {base : Nat} {data : List Byte} {s t : State} (b : Bool) (h : mountBank base data s = .ok t) :
    mountBank base data (s.withFaulted b) = .ok (t.withFaulted b) := by
  obtain ⟨hle, rfl⟩ := mountBank_eq_ok h
  exact mountBank_of_le hle base _

/-! ## Ticks and runs (R383, R384) -/

theorem tick_of_next {s t : State} (h : step s = .next t) (env : List EnvEvent) : tick env s = applyEnv env t := by
  rw [tick, h]

theorem tick_of_fault {s : State} {x : Fault} (h : step s = .fault x) (env : List EnvEvent) : tick env s = s.afterFault := by
  rw [tick, h]

theorem tick_of_faulted {s : State} (h : s.faulted = true) (env : List EnvEvent) : tick env s = s := by
  rw [tick, step_of_faulted h]

theorem runTicks_of_faulted {s : State} (h : s.faulted = true) (run : List (List EnvEvent)) : runTicks run s = s := by
  induction run with
  | nil => rfl
  | cons env run ih => rwa [runTicks, tick_of_faulted h]

/-- A tick sets the faulted mark just when its step ends in a fatal fault (R33, R343). -/
theorem faulted_tick_iff {s : State} (hlive : s.faulted = false) (env : List EnvEvent) :
    (tick env s).faulted = true ↔ ∃ x, step s = .fault x := by
  rcases tick_cases env s with ⟨t, hstep, htick⟩ | ⟨x, hstep, htick⟩ | ⟨r, hstep, htick⟩
  · simp [htick, hstep, faulted_of_step hstep, hlive]
  · simp [htick, hstep]
  · simp [htick, hstep, hlive]

theorem legal_tick {s : State} (hs : s.legal = true) {env : List EnvEvent} (hlive : (tick env s).faulted = false) :
    (tick env s).legal = true := by
  rcases tick_cases env s with ⟨t, hstep, htick⟩ | ⟨x, -, htick⟩ | ⟨r, -, htick⟩
  · rw [htick]
    exact legal_applyEnv (legal_of_step hs hstep) env
  · rw [htick] at hlive
    cases hlive
  · rwa [htick]

theorem legal_runTicks {s : State} (hs : s.legal = true) {run : List (List EnvEvent)}
    (hlive : (runTicks run s).faulted = false) : (runTicks run s).legal = true := by
  induction run generalizing s with
  | nil => exact hs
  | cons env run ih =>
    cases htick : (tick env s).faulted with
    | true =>
      rw [runTicks, runTicks_of_faulted htick, htick] at hlive
      cases hlive
    | false => exact ih (legal_tick hs htick) hlive

theorem runTicks_cons_of_fault {s : State} {x : Fault} (h : step s = .fault x) (env : List EnvEvent)
    (run : List (List EnvEvent)) : runTicks (env :: run) s = s.afterFault := by
  rw [runTicks, tick_of_fault h, runTicks_of_faulted s.afterFault_faulted]

/-- R325: with no event to wake it a sleeping core stays as it is. -/
theorem runTicks_of_lowPower {s : State} (hrun : s.run = .lowPower) (hlive : s.faulted = false) (n : Nat) :
    runTicks (List.replicate n []) s = s := by
  induction n with
  | zero => rfl
  | succ n ih =>
    have htick : tick [] s = s := tick_of_next (step_of_lowPower hrun hlive) []
    rw [List.replicate_succ, runTicks, htick, ih]

end Sys2Proof.Machine

namespace Sys2Proof.Cert

open Machine

theorem legal_reset : State.reset.legal = true := by decide

/-! ## The statements -/

/-- Settles O1: each value is read off the reset state. -/
theorem resetLeaves : Obligations.ResetLeaves := fun s =>
  ⟨fun r => by cases r <;> rfl, rfl, rfl, rfl, fun _ => rfl, rfl, rfl, rfl, legal_reset, rfl⟩

/-- Settles O9: the memory stays canonical under every write from outside, and a run that met no fault is completed steps
with events between them. -/
theorem hostKeepsLegal : Obligations.HostKeepsLegal := by
  refine ⟨fun s ev hs => legal_applyEvent hs ev, fun s t data hs h => ?_, fun s run hs => legal_runTicks hs⟩
  rcases h with h | h
  · exact legal_mountBank (Nat.zero_le _) hs h
  · exact legal_mountBank le_rfl hs h

/-- Settles O12: only HALT and STOP write `RUN`, and each event writes one field. -/
theorem runStateAndEvents : Obligations.RunStateAndEvents :=
  ⟨fun _ _ _ => run_of_exec, fun _ => rfl, fun _ _ => rfl, fun _ a x v hs => read8_applyEvent_write hs a x v,
    applyEvent_write_eq, fun _ n hrun hlive => runTicks_of_lowPower hrun hlive n⟩

/-- Settles O14: both mounts are one `mountBank`, from the base of their window on. -/
theorem mountCopies : Obligations.MountCopies := by
  refine fun data s t hs => ⟨fun h => ?_, fun h => mountBank_copies le_rfl hs h⟩
  simpa using mountBank_copies (Nat.zero_le _) hs h

/-- Settles O59: the mark is set by the tick of a faulting step alone; a tick past it changes nothing, and no event or mount
reads it. -/
theorem faultEndsTheRun : Obligations.FaultEndsTheRun := by
  refine ⟨fun s t env h => tick_of_next h env, fun s env hlive => faulted_tick_iff hlive env, fun s x env run h => ?_,
    fun s env h => ⟨tick_of_faulted h env, by rw [applyEnv_faulted, h]⟩, fun s ev h => ?_, fun s data h => ?_⟩
  · rw [runTicks_cons_of_fault h]
    exact ⟨rfl, step_of_faulted rfl, rfl⟩
  · calc applyEvent s ev = applyEvent ((s.withFaulted false).withFaulted true) ev := by rw [State.withFaulted_false_true h]
      _ = (applyEvent (s.withFaulted false) ev).withFaulted true := applyEvent_withFaulted _ true ev
  · refine ⟨fun t ht => ?_, fun t ht => ?_, fun hgt => ⟨mountBank_of_gt hgt _ s, mountBank_of_gt hgt _ s⟩⟩
    · exact State.withFaulted_false_true h ▸ mountBank_withFaulted true ht
    · exact State.withFaulted_false_true h ▸ mountBank_withFaulted true ht

end Sys2Proof.Cert
end

section
/-! PROOFS. 10_state.md section 1 and 2, 20_memory.md sections 3, 4 and 6: the pair views and the flag byte, and the word
write. -/

namespace Sys2Proof.Machine

open Cert

/-! ## Words and flags in numbers -/

theorem toNat_hiByte (v : Word) : (hiByte v).toNat = v.toNat / 256 := by
  have h : v.toNat = (hiByte v).toNat * 256 + (loByte v).toNat := isWord_hiByte_loByte v
  have hlo := (loByte v).isLt
  omega

theorem toNat_loByte (v : Word) : (loByte v).toNat = v.toNat % 256 := by
  have h : v.toNat = (hiByte v).toNat * 256 + (loByte v).toNat := isWord_hiByte_loByte v
  have hlo := (loByte v).isLt
  omega

/-- A byte whose low nibble is zero, from its upper four bits. -/
theorem toNat_of_lowNibble_eq_zero (f : Byte) (h : f &&& 0x0F = 0x00) :
    f.toNat = (f.getLsbD 7).toNat * 128 + (f.getLsbD 6).toNat * 64 + (f.getLsbD 5).toNat * 32 +
      (f.getLsbD 4).toNat * 16 := by
  decide +revert

/-! ## The word write (R55) -/

/-- R55, R56: the word, each of its bytes and everything else after a `write16` that does not fault. -/
theorem exists_write16 {s : State} {a : Word} (hge : 0x8000 ≤ a.toNat) (hne : a ≠ 0xFFFF) (w : Word)
    (hlegal : s.legal = true) :
    ∃ t, s.write16 a w = .next t ∧ t.read16 a = .ok w ∧ t.read8 a = loByte w ∧ t.read8 (a + 1) = hiByte w ∧
      (∀ x : Word, x ∉ [a, a + 1] → t.read8 x = s.read8 x) ∧ t = { s with mem := t.mem } := by
  have hlow := State.read8_afterWrite16_low hlegal hne w
  have hhigh := State.read8_afterWrite16_high hlegal hne w
  obtain ⟨-, houtside, -⟩ := frame_afterWrite16 s hne w
  refine ⟨_, State.write16_of_ge hge hne w, ?_, hlow, hhigh, houtside, rfl⟩
  rw [State.read16_of_ne hne, hlow, hhigh, wordOf_hiByte_loByte]

theorem withRead16_of_ok {s : State} {a v : Word} (h : s.read16 a = .ok v) (k : Word → Result) :
    s.withRead16 a k = k v := by
  rw [State.withRead16, h]

theorem withRead16_of_error {s : State} {a : Word} {x : Fault} (h : s.read16 a = .error x) (k : Word → Result) :
    s.withRead16 a k = .fault x := by
  rw [State.withRead16, h]
  rfl

end Sys2Proof.Machine

namespace Sys2Proof.Cert

open Machine

/-! ## The statements -/

/-- Settles O16: `write16` is decided by the boundary and the last address, and the helpers are a read and that write. -/
theorem writeWordAndHelpers : Obligations.WriteWordAndHelpers := by
  intro s address w
  refine ⟨fun hlt => State.write16_of_lt hlt w, ?_, fun hge hne => exists_write16 hge hne w, rfl, rfl,
    fun v hv => ⟨withRead16_of_ok hv _, withRead16_of_ok hv _⟩,
    fun x hx => ⟨withRead16_of_error hx _, withRead16_of_error hx _⟩⟩
  rintro rfl
  exact s.write16_top w

/-- Settles O17: a pair is its two bytes as a word, and a word its two bytes. -/
theorem pairViewsAndFlagByte : Obligations.PairViewsAndFlagByte := by
  intro s
  refine ⟨fun h => toNat_of_lowNibble_eq_zero s.f (beq_iff_eq.1 h), toNat_wordOf _ _, toNat_wordOf _ _, toNat_wordOf _ _,
    toNat_wordOf _ _, fun v => ⟨isWord_hiByte_loByte v, isWord_hiByte_loByte v, isWord_hiByte_loByte v, toNat_hiByte v, ?_,
      ?_⟩⟩
  · rw [State.setAf_f, toNat_and_highNibble, toNat_loByte]
  · simp [State.flagsLegal]

end Sys2Proof.Cert
end

section
/-! PROOFS. 42_alu8.md sections 1, 2 and 5: SBC, and what DAA is for. -/

namespace Sys2Proof.Machine

open Cert

/-! ## SBC (R193, D9) -/

theorem toNat_sub_ofNat_int (a : Byte) (k : Nat) : ((a - BitVec.ofNat 8 k).toNat : Int) = ((a.toNat : Int) - k) % 256 := by
  rw [toNat_sub_int, BitVec.toNat_ofNat]
  omega

theorem sbc8_flags (a x : Byte) (cin : Bool) :
    (sbc8 a x cin).flags.Are ((sbc8 a x cin).value = 0) True (a.toNat % 16 < (x.toNat + cin.toNat) % 16)
      (a.toNat < x.toNat + cin.toNat) :=
  ⟨beq_iff_eq, flag_raised, decide_eq_true_iff, decide_eq_true_iff⟩

/-! ## Packed decimal numbers (R228) -/

theorem toNat_bcd {n : Nat} (h : n < 100) : (bcd n).toNat = n / 10 * 16 + n % 10 := by
  rw [bcd, BitVec.toNat_ofNat]
  omega

theorem toNat_bcd_lowNibble {n : Nat} (h : n < 100) : (bcd n).toNat % 16 = n % 10 := by
  rw [toNat_bcd h]
  omega

/-- The sum of the lower digits decides the low correction, and the sum of the numbers the high one. -/
theorem daa8_add8_bcd {m n : Nat} (hm : m < 100) (hn : n < 100) :
    (daa8 (add8 (bcd m) (bcd n)).value (add8 (bcd m) (bcd n)).flags).value = bcd ((m + n) % 100) ∧
    ((daa8 (add8 (bcd m) (bcd n)).value (add8 (bcd m) (bcd n)).flags).flags.c = true ↔ 100 ≤ m + n) := by
  obtain ⟨-, -, hh, hc⟩ := add8_flags (bcd m) (bcd n)
  have hsum : (add8 (bcd m) (bcd n)).value.toNat = ((bcd m).toNat + (bcd n).toNat) % 256 := BitVec.toNat_add _ _
  have hplus : (add8 (bcd m) (bcd n)).flags.n = false := rfl
  have htens : (bcd m).toNat + (bcd n).toNat = 16 * (m / 10 + n / 10) + (m % 10 + n % 10) := by
    rw [toNat_bcd hm, toNat_bcd hn]
    omega
  have hdigits : m + n = 10 * (m / 10 + n / 10) + (m % 10 + n % 10) := by omega
  have hones_le : m % 10 + n % 10 ≤ 18 := by omega
  have htens_le : m / 10 + n / 10 ≤ 18 := by omega
  rw [toNat_bcd_lowNibble hm, toNat_bcd_lowNibble hn] at hh
  rw [htens] at hc hsum
  rw [hdigits]
  generalize (add8 (bcd m) (bcd n)).value = a, (add8 (bcd m) (bcd n)).flags = g,
    m / 10 + n / 10 = tens, m % 10 + n % 10 = ones at *
  have hlow : daaLow a g = true ↔ 9 < ones := by
    simp only [daaLow_iff, hh, hplus, true_and]
    omega
  have hhigh : daaHigh a g = true ↔ 100 ≤ 10 * tens + ones := by
    simp only [daaHigh_iff, hc, hplus, true_and]
    omega
  refine ⟨BitVec.eq_of_toNat_eq ?_, hhigh⟩
  change (daaValue a g).toNat = _
  rw [toNat_daaValue_of_add hplus, toNat_daaAdjust, toNat_bcd (Nat.mod_lt _ (by omega))]
  simp only [hlow, hhigh]
  split_ifs <;> omega

/-- The difference of the lower digits decides the low correction, and that of the numbers the high one. -/
theorem daa8_sub8_bcd {m n : Nat} (hm : m < 100) (hn : n < 100) :
    (daa8 (sub8 (bcd m) (bcd n)).value (sub8 (bcd m) (bcd n)).flags).value = bcd ((m + 100 - n) % 100) ∧
    ((daa8 (sub8 (bcd m) (bcd n)).value (sub8 (bcd m) (bcd n)).flags).flags.c = true ↔ m < n) := by
  obtain ⟨-, -, hh, hc⟩ := sub8_flags (bcd m) (bcd n)
  have hdiff : ((sub8 (bcd m) (bcd n)).value.toNat : Int) = ((bcd m).toNat - (bcd n).toNat) % 256 := toNat_sub_int _ _
  have hminus : (sub8 (bcd m) (bcd n)).flags.n = true := rfl
  rw [toNat_bcd_lowNibble hm, toNat_bcd_lowNibble hn] at hh
  rw [toNat_bcd hm, toNat_bcd hn] at hc hdiff
  generalize (sub8 (bcd m) (bcd n)).value = a, (sub8 (bcd m) (bcd n)).flags = g at *
  have hlow : daaLow a g = true ↔ m % 10 < n % 10 := by
    simp [daaLow_iff, hh, hminus]
  have hhigh : daaHigh a g = true ↔ m < n := by
    simp only [daaHigh_iff, hc, hminus, Bool.true_eq_false, false_and, or_false]
    omega
  refine ⟨BitVec.eq_of_toNat_eq ?_, hhigh⟩
  have hvalue := toNat_daaValue_of_sub hminus a
  rw [toNat_daaAdjust] at hvalue
  simp only [hlow, hhigh] at hvalue
  change (daaValue a g).toNat = _
  rw [toNat_bcd (Nat.mod_lt _ (by omega))]
  split_ifs at hvalue <;> omega

/-- An ALU operation that writes `A` and then `DAA`. -/
theorem exec_daa_setResult (s : State) (r : AluResult) (len : Word) :
    exec .daa ((s.setResult r).advance len) =
      .next ((((s.setResult r).advance len).setResult (daa8 r.value r.flags)).advance 1) := by
  have hflags : ((s.setResult r).advance len).flags = r.flags := by
    simp [State.flags, State.setResult]
  change decimalAdjust _ = _
  rw [decimalAdjust, hflags]
  rfl

/-- Where DAA after the operation gives this number and this carry, so do the two instructions. -/
theorem exists_alu_daa {i : Instr} {s : State} {r : AluResult} {v : Byte} {p : Prop}
    (hexec : exec i s = .next ((s.setResult r).advance 1))
    (hdaa : (daa8 r.value r.flags).value = v ∧ ((daa8 r.value r.flags).flags.c = true ↔ p)) :
    ∃ t u, exec i s = .next t ∧ exec .daa t = .next u ∧ u.a = v ∧ (u.fC = true ↔ p) := by
  obtain ⟨hvalue, hcarry⟩ := hdaa
  exact ⟨_, _, hexec, exec_daa_setResult s r 1, hvalue, by simpa [State.setResult] using hcarry⟩

end Sys2Proof.Machine

namespace Sys2Proof.Cert

open Machine

/-- Settles O38: every form is `sbc8` of `A`, the operand and the old carry. -/
theorem sbcA : Obligations.SbcA :=
  ⟨aluCoded_of_op .sbc, aluDoes_of_aluResult fun x s len =>
    ⟨toNat_sub_ofNat_int s.a _, (sbc8_flags s.a x s.fC).flagsAre_setResult s len, frame_setResult s _ len⟩⟩

/-- Settles O43: each operation leaves the flags by which `DAA` mends the two digits. -/
theorem decimalArithmetic : Obligations.DecimalArithmetic := by
  intro s m n hm hn ha hb
  have hadd : exec .addAB s = .next ((s.setResult (add8 (bcd m) (bcd n))).advance 1) := by
    rw [← ha, ← hb]
    rfl
  have hsub : exec .subB s = .next ((s.setResult (sub8 (bcd m) (bcd n))).advance 1) := by
    rw [← ha, ← hb]
    rfl
  exact ⟨exists_alu_daa hadd (daa8_add8_bcd hm hn), exists_alu_daa hsub (daa8_sub8_bcd hm hn)⟩

end Sys2Proof.Cert
end

section
/-! PROOFS. 41_load16_stack.md sections 1 and 3, 45_control_flow.md sections 3 and 4, and 46_system.md sections 2 to 4: what
is pushed comes back, and the instructions that stop the core. -/

namespace Sys2Proof.Machine

open Cert

/-! ## A push and the pop after it -/

/-- The state after a push of `v` and its pop: only the stack's two bytes have changed (R170, R171). -/
def State.afterRoundTrip (s : State) (v : Word) : State := { s with mem := (s.afterPush v).mem }

/-- Between the push and the pop only `PC` has been set. -/
theorem State.withPop16_jumpTo_afterPush {s : State} (hpush : canPush s) (hlegal : s.legal = true) (v target : Word)
    (k : Word → State → Result) :
    ((s.afterPush v).jumpTo target).withPop16 k = k v ((s.afterRoundTrip v).jumpTo target) :=
  State.withPop16_afterPush hpush hlegal v fun w u => k w (u.jumpTo target)

@[simp] theorem State.afterRoundTrip_sp (s : State) (v : Word) : (s.afterRoundTrip v).sp = s.sp := rfl
@[simp] theorem State.afterRoundTrip_f (s : State) (v : Word) : (s.afterRoundTrip v).f = s.f := rfl
@[simp] theorem State.afterRoundTrip_run (s : State) (v : Word) : (s.afterRoundTrip v).run = s.run := rfl
@[simp] theorem State.afterRoundTrip_ime (s : State) (v : Word) : (s.afterRoundTrip v).ime = s.ime := rfl

@[simp] theorem State.reg_afterRoundTrip (s : State) (v : Word) (r : Reg8) : (s.afterRoundTrip v).reg r = s.reg r := by
  cases r <;> rfl

theorem and_highNibble_eq_self (f : Byte) (h : f &&& 0x0F = 0x00) : f &&& 0xF0 = f := by
  decide +revert

/-- R22: writing back what was read from `AF` keeps `F` where its low nibble is zero. -/
theorem State.setStackPair_stackPair {s : State} (h : s.flagsLegal = true) (p : StackPair) :
    s.setStackPair p (s.stackPair p) = s := by
  have hf : s.f &&& 0xF0 = s.f := and_highNibble_eq_self s.f (beq_iff_eq.1 h)
  cases p with
  | bc => simp [State.setStackPair, State.stackPair, State.setBc, State.bc]
  | de => simp [State.setStackPair, State.stackPair, State.setDe, State.de]
  | hl => simp [State.setStackPair, State.stackPair, State.setHl, State.hl]
  | af => simp only [State.setStackPair, State.stackPair, State.setAf, State.af, hiByte_wordOf, loByte_wordOf, hf]

theorem popPair_after_pushPair {s : State} (hpush : canPush s) (hlegal : s.legal = true) (p : StackPair) :
    popPair p ((s.afterPush (s.stackPair p)).advance 1) =
      .next (((s.afterRoundTrip (s.stackPair p)).jumpTo (s.pc + 1)).advance 1) := by
  have hpair : ((s.afterRoundTrip (s.stackPair p)).jumpTo (s.pc + 1)).stackPair p = s.stackPair p := by cases p <;> rfl
  obtain ⟨hflags, -⟩ := State.legal_iff.1 hlegal
  have hback := State.setStackPair_stackPair (s := (s.afterRoundTrip (s.stackPair p)).jumpTo (s.pc + 1)) hflags p
  rw [hpair] at hback
  refine (State.withPop16_jumpTo_afterPush hpush hlegal _ (s.pc + 1) _).trans ?_
  rw [hback, finish_eq]

theorem returnTo_after_callSubroutine {s : State} (hpush : canPush s) (hlegal : s.legal = true) (next target : Word) :
    returnTo ((s.afterPush next).jumpTo target) = .next (((s.afterRoundTrip next).jumpTo target).jumpTo next) :=
  State.withPop16_jumpTo_afterPush hpush hlegal next target jump

/-! ## HALT and STOP -/

/-- The common effect of R321 and R322. -/
theorem exists_enterLowPower (n : Word) (s : State) :
    ∃ t, enterLowPower n s = .next t ∧ t.run = .lowPower ∧ t.ime = s.ime ∧ t.sp = s.sp ∧ t.pc = s.pc + n ∧ t.f = s.f ∧
      frame [] [] s t :=
  ⟨_, rfl, rfl, rfl, rfl, rfl, rfl, fun r _ => by cases r <;> rfl, fun _ _ => rfl, rfl⟩

end Sys2Proof.Machine

namespace Sys2Proof.Cert

open Machine

/-! ## The statements -/

/-- Settles O56: the pop finds the pushed word, and writing it back to where it was read changes nothing. -/
theorem stackRoundTrips : Obligations.StackRoundTrips := by
  intro s hpush hlegal
  refine ⟨fun p => ?_, fun a16 => ?_⟩
  · exact ⟨_, _, (exec_push p s).trans (pushPair_of_canPush hpush p),
      (exec_pop p _).trans (popPair_after_pushPair hpush hlegal p), by simp, by simp, by simp, BitVec.add_assoc s.pc 1 1⟩
  · exact ⟨_, _, callSubroutine_of_canPush hpush a16 3, returnTo_after_callSubroutine hpush hlegal _ a16, by simp,
      by simp, by simp, by simp, by simp, by simp [controlKept]⟩

/-- Settles O58: HALT and STOP are one `enterLowPower`, EI is one `writeIme`, and a reserved byte is the default advance
alone. -/
theorem haltStopEiReserved : Obligations.HaltStopEiReserved := by
  refine ⟨fun s => ⟨?_, ?_, ?_⟩, fun k => ⟨codedAs_reserved k, costs_reserved k, fun s => ?_⟩⟩
  · exact ⟨codedAs_of_plain rfl (by decide), ⟨rfl, rfl⟩, exists_enterLowPower 1 s⟩
  · exact ⟨⟨rfl, rfl⟩, fun _ _ => rfl, exists_enterLowPower 2 s⟩
  · exact ⟨codedAs_of_plain rfl (by decide), ⟨rfl, rfl⟩, exists_writeIme true s⟩
  · exact onlyPc_of_finish (exec_reserved k s)

end Sys2Proof.Cert
end
